-- ==== Sys2Proof/Word.lean ====
section
/-! DEFINITION. The value types of 10_state.md section 3: the widths of rule R16 and the command buffer of rule R15. -/

namespace Sys2Proof

/-- U8: a buffer byte, an operation code, an enumeration code (10_state.md R16). -/
abbrev Byte := BitVec 8

/-- U32: the frequency register value, a frequency in Hz, a presented tick count (10_state.md R16). -/
abbrev Word := BitVec 32

/-- U64: the widened intermediate of the frequency conversions, never on a port (10_state.md R16). -/
abbrev Wide := BitVec 64

/-- U16: a millivolt value (10_state.md R16). -/
abbrev Millivolts := BitVec 16

/-- Buf40, a command buffer: five bytes, B[0] first in transmission order (10_state.md R15, 20_memory.md R23).
The hardware carries no tag beside the 40 bits, so one type serves the three kinds of buffer (R15, R40). Two buffers
are equal when all 40 bits are equal (R15). -/
structure Buf40 where
  b0 : Byte
  b1 : Byte
  b2 : Byte
  b3 : Byte
  b4 : Byte
  deriving DecidableEq, Repr

/-- The buffer of five zero bytes: what a buffer field that no operation produces holds (30_encoding.md R41). -/
def Buf40.zero : Buf40 := ⟨0, 0, 0, 0, 0⟩

end Sys2Proof
end

