-- ==== Sys2Proof/Config.lean ====
section
/-! DEFINITION. The implementation parameters the spec leaves open (00_scope.md R6), as plain data. State holds one
`Config`; a step never changes it (10_state.md R18), and every statement holds for every value of it. -/

namespace Sys2Proof

/-- NARROW_MODE (00_scope.md R6, D8): what RFFREQ.FROM_FREQUENCY does with a quotient of 2^32 or more. D8 names a
third value, refuse; it is left out because R8 forbids a failing case in this operation (DESIGN CHOICE, log entry 7). -/
inductive NarrowMode where
  /-- keep the low 32 bits, the spec's own choice (41_rffreq.md R56) -/
  | wrap
  /-- the largest 32-bit value -/
  | saturate
  deriving DecidableEq, Repr

/-- PA_LIMIT_AT_400MHZ (00_scope.md R6, D29): which duty-cycle limit of 70_reset_and_hazards.md R107 holds at exactly
400 MHz. Read by no operation. -/
inductive PaLimitAt400MHz where
  | lpHighBand
  | lpLowBand
  | unspecified
  deriving DecidableEq, Repr

/-- The parameters of 00_scope.md R6: fixed when the hardware is built, read-only ever after (10_state.md R18,
70_reset_and_hazards.md R105). TCXO_MV[0], [1] and [7] are fixed by the spec and so are no fields. -/
structure Config where
  /-- OPC_RFFREQ -/
  opcRffreq : Byte
  /-- OPC_PACONFIG -/
  opcPaconfig : Byte
  /-- OPC_TCXOMODE -/
  opcTcxomode : Byte
  /-- REGMODE_CODE[0] -/
  regmodeCode0 : Byte
  /-- REGMODE_CODE[1] -/
  regmodeCode1 : Byte
  /-- OCP_CODE[0] -/
  ocpCode0 : Byte
  /-- OCP_CODE[1] -/
  ocpCode1 : Byte
  /-- TCXO_MV[2] -/
  tcxoMv2 : Millivolts
  /-- TCXO_MV[3] -/
  tcxoMv3 : Millivolts
  /-- TCXO_MV[4] -/
  tcxoMv4 : Millivolts
  /-- TCXO_MV[5] -/
  tcxoMv5 : Millivolts
  /-- TCXO_MV[6] -/
  tcxoMv6 : Millivolts
  /-- NARROW_MODE -/
  narrowMode : NarrowMode
  /-- PA_LIMIT_AT_400MHZ, read by no operation (D29) -/
  paLimitAt400MHz : PaLimitAt400MHz
  /-- RF_RANGE, lower end in Hz, read by no operation (D30) -/
  rfRangeLow : Nat
  /-- RF_RANGE, upper end in Hz, read by no operation (D30) -/
  rfRangeHigh : Nat
  deriving DecidableEq, Repr

end Sys2Proof
end

