-- ==== Sys2Proof/Machine/Defaults.lean ====
section
/-! DEFINITION. The hardwired constants whose value the spec fixes (00_scope.md R5, 10_state.md R18), and the default
value the spec gives each open parameter (00_scope.md R6). -/

namespace Sys2Proof.Machine

/-- F_REF, the reference frequency in Hz (00_scope.md R5, 10_state.md R18). -/
def fRef : Wide := 32000000

/-- SCALE_LOG2 (00_scope.md R5, 10_state.md R18). -/
def scaleLog2 : Nat := 25

/-- F433_BITS (10_state.md R18, 41_rffreq.md R59). -/
def f433Bits : Word := 0x1B100000

/-- F868_BITS (10_state.md R18, 41_rffreq.md R60). -/
def f868Bits : Word := 0x36400000

/-- F915_BITS (10_state.md R18, 41_rffreq.md R61). -/
def f915Bits : Word := 0x39300000

/-- PA_RESERVED_BYTE, byte 4 of every PaConfig buffer made by NEW (00_scope.md R5). -/
def paReservedByte : Byte := 0x01

/-- The default column of 00_scope.md R6: the parameter values the spec uses in its examples. Not from the source
(PRESUMED, log entries 5 and 6; DESIGN CHOICE, log entries 7 and 8). -/
def defaultConfig : Config where
  opcRffreq := 0x86
  opcPaconfig := 0x95
  opcTcxomode := 0x97
  regmodeCode0 := 0x00
  regmodeCode1 := 0x01
  ocpCode0 := 0x18
  ocpCode1 := 0x38
  tcxoMv2 := 1800
  tcxoMv3 := 2200
  tcxoMv4 := 2400
  tcxoMv5 := 2700
  tcxoMv6 := 3000
  narrowMode := .wrap
  paLimitAt400MHz := .unspecified
  rfRangeLow := 150000000
  rfRangeHigh := 960000000

end Sys2Proof.Machine
end

