-- ==== Sys2Proof/Syntax.lean ====
section
/-! DEFINITION. The syntax: the five closed enumerations of 10_state.md R17, the request record of R13, and `Instr`,
one constructor per row of spec/opcode_table.json. -/

namespace Sys2Proof

/-- PacketType, 4 variants (10_state.md R17). The spec names them PT0 to PT3; their usual names (Fsk, LoRa, Bpsk, Msk)
are general knowledge and nothing depends on them (PRESUMED, log entry 13). -/
inductive PacketType where
  | pt0 | pt1 | pt2 | pt3
  deriving DecidableEq, Repr

/-- PaSel, 2 variants: Hp has index and code 0, Lp has 1 (10_state.md R17). -/
inductive PaSel where
  | hp | lp
  deriving DecidableEq, Repr

/-- RegMode, 2 variants RM0 and RM1 (10_state.md R17). That there are two is general knowledge (PRESUMED, log entry 13). -/
inductive RegMode where
  | rm0 | rm1
  deriving DecidableEq, Repr

/-- Ocp, 2 variants OCP0 and OCP1 (10_state.md R17). -/
inductive Ocp where
  | ocp0 | ocp1
  deriving DecidableEq, Repr

/-- TcxoTrim, 8 variants in index order (10_state.md R17). All names but Volts1pt7 are general knowledge (PRESUMED, log
entry 13). -/
inductive TcxoTrim where
  | volts1pt6 | volts1pt7 | volts1pt8 | volts2pt2 | volts2pt4 | volts2pt7 | volts3pt0 | volts3pt3
  deriving DecidableEq, Repr

/-- OperationCode: the three members of the opcode registry this block uses (10_state.md R17, 30_encoding.md R46). It
is on no port. -/
inductive OperationCode where
  | rfFreq | paConfig | tcxoMode
  deriving DecidableEq, Repr

/-- The request record `req` (10_state.md R13). -/
structure Request where
  /-- selects the operation (30_encoding.md R38) -/
  opsel : Byte
  /-- `req.buf_in`, a command buffer -/
  bufIn : Buf40
  /-- the scalar operand (30_encoding.md R39) -/
  arg : Word
  deriving DecidableEq, Repr

/-- One constructor per row of spec/opcode_table.json, in its order, each with the operands the row's fields give it.
The first 24 are the operations of 30_encoding.md R38; a `buf` is the row's `buf_in`. The last three are the rows of
format CMD5: the 40-bit layouts of R43, R44 and R45, which the spec says are not operations (log entry 10). -/
inductive Instr where
  /-- RFFREQ.FROM_BITS (41_rffreq.md R55) -/
  | rffreqFromBits (bits : Word)
  /-- RFFREQ.FROM_FREQUENCY (R56) -/
  | rffreqFromFrequency (freqHz : Word)
  /-- RFFREQ.FREQ (R57) -/
  | rffreqFreq (buf : Buf40)
  /-- RFFREQ.AS_SLICE (R58) -/
  | rffreqAsSlice (buf : Buf40)
  /-- RFFREQ.F433 (R59) -/
  | rffreqF433
  /-- RFFREQ.F868 (R60) -/
  | rffreqF868
  /-- RFFREQ.F915 (R61) -/
  | rffreqF915
  /-- PACONFIG.NEW (42_paconfig.md R64) -/
  | paconfigNew
  /-- PACONFIG.SET_PA_DUTY_CYCLE (R65) -/
  | paconfigSetPaDutyCycle (buf : Buf40) (v : Byte)
  /-- PACONFIG.SET_HP_MAX (R66) -/
  | paconfigSetHpMax (buf : Buf40) (v : Byte)
  /-- PACONFIG.SET_PA (R67) -/
  | paconfigSetPa (buf : Buf40) (pa : PaSel)
  /-- PACONFIG.AS_SLICE (R68) -/
  | paconfigAsSlice (buf : Buf40)
  /-- TCXOMODE.NEW (43_tcxomode.md R71) -/
  | tcxomodeNew
  /-- TCXOMODE.SET_TCXO_TRIM (R72) -/
  | tcxomodeSetTcxoTrim (buf : Buf40) (trim : TcxoTrim)
  /-- TCXOMODE.SET_TIMEOUT (R73) -/
  | tcxomodeSetTimeout (buf : Buf40) (ticks : Word)
  /-- TCXOMODE.AS_SLICE (R74) -/
  | tcxomodeAsSlice (buf : Buf40)
  /-- PACKETTYPE.FROM_BITS (44_enumerations.md R77) -/
  | packettypeFromBits (raw : Byte)
  /-- PACKETTYPE.BITS (R78) -/
  | packettypeBits (idx : PacketType)
  /-- PASEL.BITS (R79) -/
  | paselBits (pa : PaSel)
  /-- PASEL.CMP (R80) -/
  | paselCmp (a b : PaSel)
  /-- REGMODE.BITS (R81) -/
  | regmodeBits (idx : RegMode)
  /-- OCP.BITS (R82) -/
  | ocpBits (idx : Ocp)
  /-- TCXOTRIM.BITS (R83) -/
  | tcxotrimBits (idx : TcxoTrim)
  /-- TCXOTRIM.AS_MILLIVOLTS (R84) -/
  | tcxotrimAsMillivolts (idx : TcxoTrim)
  /-- BUFFER.RFFREQ, a layout (30_encoding.md R43) -/
  | bufferRffreq (opcode : Byte) (bits : Word)
  /-- BUFFER.PACONFIG, a layout (R44) -/
  | bufferPaconfig (opcode : Byte) (dutyCycle hpMax : BitVec 3) (pa : PaSel) (reserved : Byte)
  /-- BUFFER.TCXOMODE, a layout (R45) -/
  | bufferTcxomode (opcode : Byte) (trim : TcxoTrim) (ticks : BitVec 24)
  deriving DecidableEq, Repr

end Sys2Proof
end

