-- ==== Sys2Proof/Decode.lean ====
section
/-! DEFINITION. Encodings (30_encoding.md): the 40-bit placement of a buffer (20_memory.md R26), the packed request
word (R37), the operation map (R38), operand assembly (R39), the three buffer layouts (R43, R44, R45); then the
encoder, written from the same tables. -/

namespace Sys2Proof

/-- Byte 0 is bits 39:32 and byte 4 is bits 7:0 (20_memory.md R26): `B[0] ‖ B[1] ‖ B[2] ‖ B[3] ‖ B[4]`. -/
def Buf40.toVec (b : Buf40) : BitVec 40 := b.b0 ++ b.b1 ++ b.b2 ++ b.b3 ++ b.b4

/-- `B[i] = buf[39-8i : 32-8i]` (00_scope.md R7). -/
def Buf40.ofVec (v : BitVec 40) : Buf40 where
  b0 := v.extractLsb' 32 8
  b1 := v.extractLsb' 24 8
  b2 := v.extractLsb' 16 8
  b3 := v.extractLsb' 8 8
  b4 := v.extractLsb' 0 8

/-- The fields of a packed request word: `opsel` 79:72, `buf_in` 71:32, `arg` 31:0 (30_encoding.md R37). -/
def Request.ofWord (w : BitVec 80) : Request where
  opsel := w.extractLsb' 72 8
  bufIn := Buf40.ofVec (w.extractLsb' 32 40)
  arg := w.extractLsb' 0 32

/-- The packed request word `opsel ‖ buf_in ‖ arg` (30_encoding.md R37). -/
def Request.toWord (r : Request) : BitVec 80 := r.opsel ++ r.bufIn.toVec ++ r.arg

/-- PacketType variant of a 2-bit index (10_state.md R17). -/
def PacketType.ofIndex (i : BitVec 2) : PacketType :=
  if i = 0 then .pt0 else if i = 1 then .pt1 else if i = 2 then .pt2 else .pt3

/-- PaSel variant of a 1-bit index (10_state.md R17). -/
def PaSel.ofIndex (i : BitVec 1) : PaSel := if i = 0 then .hp else .lp

/-- RegMode variant of a 1-bit index (10_state.md R17). -/
def RegMode.ofIndex (i : BitVec 1) : RegMode := if i = 0 then .rm0 else .rm1

/-- Ocp variant of a 1-bit index (10_state.md R17). -/
def Ocp.ofIndex (i : BitVec 1) : Ocp := if i = 0 then .ocp0 else .ocp1

/-- TcxoTrim variant of a 3-bit index (10_state.md R17). -/
def TcxoTrim.ofIndex (i : BitVec 3) : TcxoTrim :=
  if i = 0 then .volts1pt6 else if i = 1 then .volts1pt7 else if i = 2 then .volts1pt8
  else if i = 3 then .volts2pt2 else if i = 4 then .volts2pt4 else if i = 5 then .volts2pt7
  else if i = 6 then .volts3pt0 else .volts3pt3

/-- Why the decoder reads no instruction. -/
inductive Rejection where
  /-- The request's `opsel` is in no row of the operation map: reserved (30_encoding.md R48). The port-level answer
  to such a request is `Machine.reservedResponse`. Safe. -/
  | reservedSelect (opsel : Byte)
  /-- A 40-bit word that is no buffer of the three layouts under the given opcodes (30_encoding.md R43 to R45). Safe. -/
  | noLayout (word : BitVec 40)
  deriving DecidableEq, Repr

/-- The operation map (30_encoding.md R38) with operand assembly (R39): an operand is the named low bits of `arg`, the
rest of `arg` and an unused `buf_in` are ignored. Every other `opsel` is reserved (R48). -/
def decode (r : Request) : Except Rejection Instr :=
  match r.opsel with
  | 0x10#8 => .ok (.rffreqFromBits r.arg)
  | 0x11#8 => .ok (.rffreqFromFrequency r.arg)
  | 0x12#8 => .ok (.rffreqFreq r.bufIn)
  | 0x13#8 => .ok (.rffreqAsSlice r.bufIn)
  | 0x14#8 => .ok .rffreqF433
  | 0x15#8 => .ok .rffreqF868
  | 0x16#8 => .ok .rffreqF915
  | 0x20#8 => .ok .paconfigNew
  | 0x21#8 => .ok (.paconfigSetPaDutyCycle r.bufIn (r.arg.extractLsb' 0 8))
  | 0x22#8 => .ok (.paconfigSetHpMax r.bufIn (r.arg.extractLsb' 0 8))
  | 0x23#8 => .ok (.paconfigSetPa r.bufIn (.ofIndex (r.arg.extractLsb' 0 1)))
  | 0x24#8 => .ok (.paconfigAsSlice r.bufIn)
  | 0x30#8 => .ok .tcxomodeNew
  | 0x31#8 => .ok (.tcxomodeSetTcxoTrim r.bufIn (.ofIndex (r.arg.extractLsb' 0 3)))
  | 0x32#8 => .ok (.tcxomodeSetTimeout r.bufIn r.arg)
  | 0x33#8 => .ok (.tcxomodeAsSlice r.bufIn)
  | 0x40#8 => .ok (.packettypeFromBits (r.arg.extractLsb' 0 8))
  | 0x41#8 => .ok (.packettypeBits (.ofIndex (r.arg.extractLsb' 0 2)))
  | 0x42#8 => .ok (.paselBits (.ofIndex (r.arg.extractLsb' 0 1)))
  | 0x43#8 => .ok (.paselCmp (.ofIndex (r.arg.extractLsb' 0 1)) (.ofIndex (r.arg.extractLsb' 8 1)))
  | 0x44#8 => .ok (.regmodeBits (.ofIndex (r.arg.extractLsb' 0 1)))
  | 0x45#8 => .ok (.ocpBits (.ofIndex (r.arg.extractLsb' 0 1)))
  | 0x46#8 => .ok (.tcxotrimBits (.ofIndex (r.arg.extractLsb' 0 3)))
  | 0x47#8 => .ok (.tcxotrimAsMillivolts (.ofIndex (r.arg.extractLsb' 0 3)))
  | other => .error (.reservedSelect other)

/-- The RfFreq layout `oooooooo ffffffff ffffffff ffffffff ffffffff` (30_encoding.md R43). -/
def layoutRffreq (c : Config) (v : BitVec 40) : Option Instr :=
  if v.extractLsb' 32 8 = c.opcRffreq then some (.bufferRffreq (v.extractLsb' 32 8) (v.extractLsb' 0 32)) else none

/-- The PaConfig layout `oooooooo 00000ddd 00000hhh 0000000p 00000001` (30_encoding.md R44). -/
def layoutPaconfig (c : Config) (v : BitVec 40) : Option Instr :=
  if v.extractLsb' 32 8 = c.opcPaconfig ∧ v.extractLsb' 27 5 = 0 ∧ v.extractLsb' 19 5 = 0 ∧ v.extractLsb' 9 7 = 0
      ∧ v.extractLsb' 0 8 = 0x01 then
    some (.bufferPaconfig (v.extractLsb' 32 8) (v.extractLsb' 24 3) (v.extractLsb' 16 3)
      (.ofIndex (v.extractLsb' 8 1)) (v.extractLsb' 0 8))
  else none

/-- The TcxoMode layout `oooooooo 00000rrr tttttttt tttttttt tttttttt` (30_encoding.md R45). -/
def layoutTcxomode (c : Config) (v : BitVec 40) : Option Instr :=
  if v.extractLsb' 32 8 = c.opcTcxomode ∧ v.extractLsb' 27 5 = 0 then
    some (.bufferTcxomode (v.extractLsb' 32 8) (.ofIndex (v.extractLsb' 24 3)) (v.extractLsb' 0 24))
  else none

/-- The layout a 40-bit buffer word has. The three are told apart by byte 0 (30_encoding.md R42,
70_reset_and_hazards.md R115). The block itself parses no buffer this way (00_scope.md R2): this reads the CMD5 rows of
spec/opcode_table.json. -/
def decodeLayout (c : Config) (v : BitVec 40) : Except Rejection Instr :=
  match layoutRffreq c v, layoutPaconfig c v, layoutTcxomode c v with
  | some i, _, _ => .ok i
  | none, some i, _ => .ok i
  | none, none, some i => .ok i
  | none, none, none => .error (.noLayout v)

/-- A word of spec/opcode_table.json: a packed request (format REQ, 80 bits) or a buffer (format CMD5, 40 bits). -/
inductive Code where
  | req (w : BitVec 80)
  | cmd5 (w : BitVec 40)
  deriving DecidableEq, Repr

/-- What a word of either format stands for. Total: a reserved `opsel` and a buffer of no layout are rejected by name. -/
def decodeCode (c : Config) : Code → Except Rejection Instr
  | .req w => decode (Request.ofWord w)
  | .cmd5 w => decodeLayout c w

/-- The instruction read from the low `nbits` bits of `w`, bit 0 the least significant bit of the one packed word, as
spec/opcode_table.json numbers them: 80 bits are a request word, 40 bits a buffer under the default opcodes (log
entry 11). No other length exists (30_encoding.md R50). -/
def decodeTableWord (nbits w : Nat) : Option Instr :=
  if nbits = 80 then (decodeCode Machine.defaultConfig (.req (BitVec.ofNat 80 w))).toOption
  else if nbits = 40 then (decodeCode Machine.defaultConfig (.cmd5 (BitVec.ofNat 40 w))).toOption
  else none

/-! The encoder. -/

/-- Variant index of a PacketType (10_state.md R17). -/
def PacketType.toIndex : PacketType → BitVec 2
  | .pt0 => 0 | .pt1 => 1 | .pt2 => 2 | .pt3 => 3

/-- Variant index of a PaSel (10_state.md R17). -/
def PaSel.toIndex : PaSel → BitVec 1
  | .hp => 0 | .lp => 1

/-- Variant index of a RegMode (10_state.md R17). -/
def RegMode.toIndex : RegMode → BitVec 1
  | .rm0 => 0 | .rm1 => 1

/-- Variant index of an Ocp (10_state.md R17). -/
def Ocp.toIndex : Ocp → BitVec 1
  | .ocp0 => 0 | .ocp1 => 1

/-- Variant index of a TcxoTrim (10_state.md R17). -/
def TcxoTrim.toIndex : TcxoTrim → BitVec 3
  | .volts1pt6 => 0 | .volts1pt7 => 1 | .volts1pt8 => 2 | .volts2pt2 => 3
  | .volts2pt4 => 4 | .volts2pt7 => 5 | .volts3pt0 => 6 | .volts3pt3 => 7

/-- A request word from its fields. -/
def reqCode (opsel : Byte) (bufIn : Buf40) (arg : Word) : Code := .req (Request.toWord ⟨opsel, bufIn, arg⟩)

/-- The word of an instruction, from the same tables as `decode`. A bit the operation ignores (`x` in
spec/opcode_table.json) is written 0 (DESIGN CHOICE, log entry 14). -/
def encode : Instr → Code
  | .rffreqFromBits bits => reqCode 0x10 .zero bits
  | .rffreqFromFrequency freqHz => reqCode 0x11 .zero freqHz
  | .rffreqFreq buf => reqCode 0x12 buf 0
  | .rffreqAsSlice buf => reqCode 0x13 buf 0
  | .rffreqF433 => reqCode 0x14 .zero 0
  | .rffreqF868 => reqCode 0x15 .zero 0
  | .rffreqF915 => reqCode 0x16 .zero 0
  | .paconfigNew => reqCode 0x20 .zero 0
  | .paconfigSetPaDutyCycle buf v => reqCode 0x21 buf (v.setWidth 32)
  | .paconfigSetHpMax buf v => reqCode 0x22 buf (v.setWidth 32)
  | .paconfigSetPa buf pa => reqCode 0x23 buf (pa.toIndex.setWidth 32)
  | .paconfigAsSlice buf => reqCode 0x24 buf 0
  | .tcxomodeNew => reqCode 0x30 .zero 0
  | .tcxomodeSetTcxoTrim buf trim => reqCode 0x31 buf (trim.toIndex.setWidth 32)
  | .tcxomodeSetTimeout buf ticks => reqCode 0x32 buf ticks
  | .tcxomodeAsSlice buf => reqCode 0x33 buf 0
  | .packettypeFromBits raw => reqCode 0x40 .zero (raw.setWidth 32)
  | .packettypeBits idx => reqCode 0x41 .zero (idx.toIndex.setWidth 32)
  | .paselBits pa => reqCode 0x42 .zero (pa.toIndex.setWidth 32)
  | .paselCmp a b => reqCode 0x43 .zero ((0#23 ++ b.toIndex ++ 0#7 ++ a.toIndex : BitVec 32))
  | .regmodeBits idx => reqCode 0x44 .zero (idx.toIndex.setWidth 32)
  | .ocpBits idx => reqCode 0x45 .zero (idx.toIndex.setWidth 32)
  | .tcxotrimBits idx => reqCode 0x46 .zero (idx.toIndex.setWidth 32)
  | .tcxotrimAsMillivolts idx => reqCode 0x47 .zero (idx.toIndex.setWidth 32)
  | .bufferRffreq opcode bits => .cmd5 (opcode ++ bits)
  | .bufferPaconfig opcode dutyCycle hpMax pa reserved =>
      .cmd5 (opcode ++ 0#5 ++ dutyCycle ++ 0#5 ++ hpMax ++ 0#7 ++ pa.toIndex ++ reserved)
  | .bufferTcxomode opcode trim ticks => .cmd5 (opcode ++ 0#5 ++ trim.toIndex ++ ticks)

end Sys2Proof
end

