-- ==== Sys2Proof/Machine/Operands.lean ====
section
/-! DEFINITION. Operand forms: the fields of a command buffer (30_encoding.md R42 to R45, 20_memory.md R25), the code
tables (30_encoding.md R47), and the two frequency conversions (41_rffreq.md R53). -/

namespace Sys2Proof.Machine

/-! Fields of a buffer, big-endian (20_memory.md R25). -/

/-- The register value of an RfFreq buffer: `B[1] ‖ B[2] ‖ B[3] ‖ B[4]`; B[0] is not examined (41_rffreq.md R57). -/
def rfBitsOf (buf : Buf40) : Word := buf.b1 ++ buf.b2 ++ buf.b3 ++ buf.b4

/-- An RfFreq buffer: the opcode, then `bits` most significant byte first (30_encoding.md R43, 41_rffreq.md R55). -/
def rfFreqBuf (c : Config) (bits : Word) : Buf40 where
  b0 := c.opcRffreq
  b1 := bits.extractLsb' 24 8
  b2 := bits.extractLsb' 16 8
  b3 := bits.extractLsb' 8 8
  b4 := bits.extractLsb' 0 8

/-- The three low bytes of a tick count, most significant first, in bytes 2 to 4; bits above 24 are discarded
(43_tcxomode.md R73). -/
def withTicks (buf : Buf40) (ticks : Word) : Buf40 :=
  { buf with
    b2 := ((ticks >>> 16) &&& 0xFF).setWidth 8
    b3 := ((ticks >>> 8) &&& 0xFF).setWidth 8
    b4 := (ticks &&& 0xFF).setWidth 8 }

/-- `v & 0b111`: silent truncation to a 3-bit field, upper bits 0 (42_paconfig.md R65, R66). -/
def low3 (v : Byte) : Byte := v &&& 0b111

/-! Code tables (30_encoding.md R47). -/

/-- PacketType codes (R47, 44_enumerations.md R78). -/
def packetTypeCode : PacketType → Byte
  | .pt0 => 0 | .pt1 => 1 | .pt2 => 2 | .pt3 => 3

/-- PaSel codes: Hp 0, Lp 1 (R47, 44_enumerations.md R79). -/
def paSelCode : PaSel → BitVec 1
  | .hp => 0 | .lp => 1

/-- RegMode codes, parameters (R47, 44_enumerations.md R81). -/
def regModeCode (c : Config) : RegMode → Byte
  | .rm0 => c.regmodeCode0
  | .rm1 => c.regmodeCode1

/-- Ocp codes, parameters (R47, 44_enumerations.md R82). -/
def ocpCode (c : Config) : Ocp → Byte
  | .ocp0 => c.ocpCode0
  | .ocp1 => c.ocpCode1

/-- TcxoTrim codes: index i has code i (R47, 44_enumerations.md R83; the order of the names is PRESUMED, log entry 13). -/
def tcxoTrimCode : TcxoTrim → BitVec 3
  | .volts1pt6 => 0 | .volts1pt7 => 1 | .volts1pt8 => 2 | .volts2pt2 => 3
  | .volts2pt4 => 4 | .volts2pt7 => 5 | .volts3pt0 => 6 | .volts3pt3 => 7

/-- TCXO_MV: entries 0, 1 and 7 are fixed, 2 to 6 are parameters (R47, 00_scope.md R6; log entries 5 and 13). -/
def tcxoMillivolts (c : Config) : TcxoTrim → Millivolts
  | .volts1pt6 => 1600
  | .volts1pt7 => 1700
  | .volts1pt8 => c.tcxoMv2
  | .volts2pt2 => c.tcxoMv3
  | .volts2pt4 => c.tcxoMv4
  | .volts2pt7 => c.tcxoMv5
  | .volts3pt0 => c.tcxoMv6
  | .volts3pt3 => 3300

/-- The operation-code registry: lookup by name, total (30_encoding.md R46). -/
def operationCode (c : Config) : OperationCode → Byte
  | .rfFreq => c.opcRffreq
  | .paConfig => c.opcPaconfig
  | .tcxoMode => c.opcTcxomode

/-! The conversions. -/

/-- `enc(f) = (zext_64(f) * 2^25) div 32_000_000` (41_rffreq.md R53): floor, with the 64-bit intermediate of R54. -/
def rfEncode (f : Word) : Wide := f.setWidth 64 * BitVec.twoPow 64 scaleLog2 / fRef

/-- `dec(b) = (32_000_000 * zext_64(b)) div 2^25` (41_rffreq.md R53). -/
def rfDecode (b : Word) : Wide := fRef * b.setWidth 64 / BitVec.twoPow 64 scaleLog2

/-- The narrowing of `enc(f)` to the 32-bit operand of `from_bits` (41_rffreq.md R56 corner case (c), D8; log entry 7). -/
def narrow (mode : NarrowMode) (q : Wide) : Word :=
  match mode with
  | .wrap => q.setWidth 32
  | .saturate => if q.toNat < 2 ^ 32 then q.setWidth 32 else BitVec.allOnes 32

end Sys2Proof.Machine
end

