-- ==== Sys2Proof/Machine/State.lean ====
section
/-! DEFINITION. The state. The block keeps nothing (10_state.md R9): what there is are the values on its two ports
(R13, R14) and its hardwired constants (R18). INVENTORY.md lists every piece with its rule. -/

namespace Sys2Proof.Machine

/-- The response record `rsp` (10_state.md R14). -/
structure Response where
  /-- `rsp.buf_out`, the command buffer produced -/
  bufOut : Buf40
  /-- `rsp.res`, the scalar result -/
  res : Word
  /-- `rsp.err`: PACKETTYPE.FROM_BITS rejected its operand (44_enumerations.md R77) -/
  err : Bool
  /-- `rsp.ill`: `opsel` is reserved (30_encoding.md R48) -/
  ill : Bool
  deriving DecidableEq, Repr

/-- No cause stops the machine with a fault: the block has no trap and no fault of any kind (60_exceptions.md R88,
R90), and 93_implementation_defined.md part 1 uses the treatments `fault` and `stuck` nowhere. Closed and empty
(log entry 20). Safe: a model without a fault cannot hide an effect behind one. -/
inductive Fault where
  deriving DecidableEq, Repr

/-- Why the model gives no next state. -/
inductive Refusal where
  /-- Raised by an arm of `exec` whose instruction has no meaning yet; there is none in this model. Safe. -/
  | notModelled (mnemonic : String)
  /-- Raised by the three CMD5 rows of the opcode table: a 5-byte command buffer is addressed to the radio, which is
  out of scope (00_scope.md R4 (j)), and is not an operation of the block (30_encoding.md, opening; log entry 10). No
  request decodes to such a row, so no step raises it. Safe. -/
  | notAnOperation (mnemonic : String)
  deriving DecidableEq, Repr

/-- The machine: the hardwired constants, the request the host drives, and the response of the block. -/
structure State where
  /-- the parameters of 00_scope.md R6, hardwired (10_state.md R18): no step changes them -/
  cfg : Config
  /-- the request port (10_state.md R13): driven by the host, never altered by the block (R21) -/
  req : Request
  /-- the response port (10_state.md R14) -/
  rsp : Response
  deriving DecidableEq, Repr

/-- There is nothing to reset (70_reset_and_hazards.md R103): the constants have their one value, and the block's
response is that of its request (R104). The all-zero request, which selects nothing (D3), is the model's choice, and
`rsp` is the response 30_encoding.md R48 gives to it (DESIGN CHOICE, log entry 2); `cfg` holds the spec's default
values (PRESUMED, log entries 5 and 6; DESIGN CHOICE, log entries 7 and 8). -/
def State.reset : State where
  cfg := defaultConfig
  req := ⟨0x00, ⟨0, 0, 0, 0, 0⟩, 0⟩
  rsp := ⟨⟨0, 0, 0, 0, 0⟩, 0, false, true⟩

end Sys2Proof.Machine
end

