-- ==== Sys2Proof/Machine/Flags.lean ====
section
/-! DEFINITION. The two response bits `rsp.err` and `rsp.ill` and the ordering result. The bits belong to one response:
nothing is latched, no operation reads them (10_state.md R12, 60_exceptions.md R89). There is no other flag, and no trap
to take or return from (60_exceptions.md R90, R93, R94): the responses below are all that stands in an exception's place. -/

namespace Sys2Proof.Machine

/-- Response assembly for an operation that produces a buffer: every other field 0 (30_encoding.md R41). -/
def bufResponse (b : Buf40) : Response := ⟨b, 0, false, false⟩

/-- Response assembly for an operation that produces a scalar, zero-extended into `rsp.res` (30_encoding.md R41). -/
def resResponse {n : Nat} (v : BitVec n) : Response := ⟨.zero, v.setWidth 32, false, false⟩

/-- The one failure: an unrecognised packet-type code, returned unchanged with `rsp.err` = 1 (44_enumerations.md R77,
60_exceptions.md R87, R88). -/
def rejectedResponse (raw : Byte) : Response := ⟨.zero, raw.setWidth 32, true, false⟩

/-- The answer to a reserved `opsel`: `rsp.ill` = 1 and every other field 0 (30_encoding.md R48). -/
def reservedResponse : Response := ⟨.zero, 0, false, true⟩

/-- Code-to-variant of PacketType, the only decode with rejection: 0 to 3 are variants, every other byte is none
(44_enumerations.md R77, R86). -/
def packetTypeOfCode (raw : Byte) : Option PacketType :=
  if raw = 0 then some .pt0 else if raw = 1 then some .pt1
  else if raw = 2 then some .pt2 else if raw = 3 then some .pt3 else none

/-- `rank(Hp) = 1`, `rank(Lp) = 0`: Lp is below Hp, against the order of the codes (44_enumerations.md R80). -/
def paSelRank : PaSel → Nat
  | .hp => 1 | .lp => 0

/-- The total order of PaSel (44_enumerations.md R80). -/
def paSelCompare (a b : PaSel) : Ordering := compare (paSelRank a) (paSelRank b)

/-- How an ordering is reported: 3 Less, 0 Equal, 1 Greater (44_enumerations.md R80, D16). -/
def orderingCode : Ordering → BitVec 2
  | .lt => 3 | .eq => 0 | .gt => 1

end Sys2Proof.Machine
end

