-- ==== Sys2Proof/Machine/Ops.lean ====
section
/-! DEFINITION. The shared operations: answering on the response port, driving the request port, the default buffers,
and the packed response word. -/

namespace Sys2Proof.Machine

/-- The block puts a response on its response port. Nothing else can change: there is no other output, and the request
and the constants are not the block's to alter (10_state.md R9, R18, R21). -/
def State.answer (s : State) (r : Response) : State := { s with rsp := r }

/-- The host drives a request (10_state.md R13). The response on the port is that of the last transaction until the next
step (DESIGN CHOICE, log entry 16). -/
def State.drive (s : State) (r : Request) : State := { s with req := r }

/-- An operation ends by answering. -/
def answer (s : State) (r : Response) : Host.Outcome State Fault Refusal := .next (s.answer r)

/-- Answer with a buffer (30_encoding.md R41). -/
def answerBuf (s : State) (b : Buf40) : Host.Outcome State Fault Refusal := answer s (bufResponse b)

/-- Answer with a scalar (30_encoding.md R41). -/
def answerRes (s : State) {n : Nat} (v : BitVec n) : Host.Outcome State Fault Refusal := answer s (resResponse v)

/-- PACONFIG_DEFAULT: opcode, duty cycle 1, HP-max 0, PA Hp, reserved byte (42_paconfig.md R64, 90_conflicts.md C5). -/
def paConfigDefault (c : Config) : Buf40 := ⟨operationCode c .paConfig, 0x01, 0x00, 0x00, paReservedByte⟩

/-- TCXOMODE_DEFAULT: opcode, trim 0, timeout 0 (43_tcxomode.md R71). -/
def tcxoModeDefault (c : Config) : Buf40 := ⟨operationCode c .tcxoMode, 0x00, 0x00, 0x00, 0x00⟩

/-- The packed response word RSP: `ill` bit 73, `err` bit 72, `buf_out` 71:32, `res` 31:0 (30_encoding.md R37). -/
def Response.toWord (r : Response) : BitVec 74 :=
  BitVec.ofBool r.ill ++ BitVec.ofBool r.err ++ r.bufOut.toVec ++ r.res

end Sys2Proof.Machine
end

