-- ==== Sys2Proof/Machine/Enumerations.lean ====
section
/-! DEFINITION. Family ENUM: the enumeration mapper (44_enumerations.md). -/

namespace Sys2Proof.Machine

/-- PACKETTYPE.FROM_BITS (R77): the variant index, or `rsp.err` = 1 with the original byte. The failure is a result
value, not a trap (60_exceptions.md R90). -/
def execPackettypeFromBits (raw : Byte) (s : State) : Host.Outcome State Fault Refusal :=
  match packetTypeOfCode raw with
  | some idx => answerRes s idx.toIndex
  | none => answer s (rejectedResponse raw)

/-- PACKETTYPE.BITS (R78). -/
def execPackettypeBits (idx : PacketType) (s : State) : Host.Outcome State Fault Refusal :=
  answerRes s (packetTypeCode idx)

/-- PASEL.BITS (R79). -/
def execPaselBits (pa : PaSel) (s : State) : Host.Outcome State Fault Refusal := answerRes s (paSelCode pa)

/-- PASEL.CMP (R80): 3 Less, 0 Equal, 1 Greater, with Lp below Hp. -/
def execPaselCmp (a b : PaSel) (s : State) : Host.Outcome State Fault Refusal :=
  answerRes s (orderingCode (paSelCompare a b))

/-- REGMODE.BITS (R81). -/
def execRegmodeBits (idx : RegMode) (s : State) : Host.Outcome State Fault Refusal :=
  answerRes s (regModeCode s.cfg idx)

/-- OCP.BITS (R82). -/
def execOcpBits (idx : Ocp) (s : State) : Host.Outcome State Fault Refusal := answerRes s (ocpCode s.cfg idx)

/-- TCXOTRIM.BITS (R83). -/
def execTcxotrimBits (idx : TcxoTrim) (s : State) : Host.Outcome State Fault Refusal :=
  answerRes s (tcxoTrimCode idx)

/-- TCXOTRIM.AS_MILLIVOLTS (R84). -/
def execTcxotrimAsMillivolts (idx : TcxoTrim) (s : State) : Host.Outcome State Fault Refusal :=
  answerRes s (tcxoMillivolts s.cfg idx)

end Sys2Proof.Machine
end

