-- ==== Sys2Proof/Machine/Layouts.lean ====
section
/-! DEFINITION. The three CMD5 rows of spec/opcode_table.json: buffer layouts, "which are not operations"
(30_encoding.md, opening). A buffer's reader is the radio, out of scope (00_scope.md R4 (j)), so each is refused by a
name of its own (log entry 10). The layouts themselves are modelled in Decode.lean (R43, R44, R45). -/

namespace Sys2Proof.Machine

/-- BUFFER.RFFREQ: no operation of the block (30_encoding.md R43). -/
def execBufferRffreq (_opcode : Byte) (_bits : Word) (_s : State) : Host.Outcome State Fault Refusal :=
  .refused (.notAnOperation "BUFFER.RFFREQ")

/-- BUFFER.PACONFIG: no operation of the block (30_encoding.md R44). -/
def execBufferPaconfig (_opcode : Byte) (_dutyCycle _hpMax : BitVec 3) (_pa : PaSel) (_reserved : Byte) (_s : State) :
    Host.Outcome State Fault Refusal :=
  .refused (.notAnOperation "BUFFER.PACONFIG")

/-- BUFFER.TCXOMODE: no operation of the block (30_encoding.md R45). -/
def execBufferTcxomode (_opcode : Byte) (_trim : TcxoTrim) (_ticks : BitVec 24) (_s : State) :
    Host.Outcome State Fault Refusal :=
  .refused (.notAnOperation "BUFFER.TCXOMODE")

end Sys2Proof.Machine
end

