-- ==== Sys2Proof/Machine/PaConfig.lean ====
section
/-! DEFINITION. Family PACONFIG: the power-amplifier configuration packer (42_paconfig.md). A setter replaces one whole
byte and copies the others, whatever the buffer holds (R69, 30_encoding.md R40); no limit is checked (R70). -/

namespace Sys2Proof.Machine

/-- PACONFIG.NEW (R64). -/
def execPaconfigNew (s : State) : Host.Outcome State Fault Refusal := answerBuf s (paConfigDefault s.cfg)

/-- PACONFIG.SET_PA_DUTY_CYCLE (R65): B[1] := `v & 0b111`. -/
def execPaconfigSetPaDutyCycle (buf : Buf40) (v : Byte) (s : State) : Host.Outcome State Fault Refusal :=
  answerBuf s { buf with b1 := low3 v }

/-- PACONFIG.SET_HP_MAX (R66): B[2] := `v & 0b111`. -/
def execPaconfigSetHpMax (buf : Buf40) (v : Byte) (s : State) : Host.Outcome State Fault Refusal :=
  answerBuf s { buf with b2 := low3 v }

/-- PACONFIG.SET_PA (R67): B[3] := the selection code, upper 7 bits 0. -/
def execPaconfigSetPa (buf : Buf40) (pa : PaSel) (s : State) : Host.Outcome State Fault Refusal :=
  answerBuf s { buf with b3 := (paSelCode pa).setWidth 8 }

/-- PACONFIG.AS_SLICE (R68): the 5 bytes unchanged. -/
def execPaconfigAsSlice (buf : Buf40) (s : State) : Host.Outcome State Fault Refusal := answerBuf s buf

end Sys2Proof.Machine
end

