-- ==== Sys2Proof/Machine/RfFreq.lean ====
section
/-! DEFINITION. Family RFFREQ: the frequency register converter and the RF-frequency command (41_rffreq.md). -/

namespace Sys2Proof.Machine

/-- RFFREQ.FROM_BITS (R55): opcode, then `bits` big-endian; no value is rejected or altered. -/
def execRffreqFromBits (bits : Word) (s : State) : Host.Outcome State Fault Refusal :=
  answerBuf s (rfFreqBuf s.cfg bits)

/-- RFFREQ.FROM_FREQUENCY (R56): `bits` is `enc(freq_hz)` narrowed to 32 bits, then as FROM_BITS. -/
def execRffreqFromFrequency (freqHz : Word) (s : State) : Host.Outcome State Fault Refusal :=
  answerBuf s (rfFreqBuf s.cfg (narrow s.cfg.narrowMode (rfEncode freqHz)))

/-- RFFREQ.FREQ (R57): `dec(bits)` cast down to 32 bits; byte 0 is not examined. -/
def execRffreqFreq (buf : Buf40) (s : State) : Host.Outcome State Fault Refusal :=
  answerRes s (rfDecode (rfBitsOf buf))

/-- RFFREQ.AS_SLICE (R58): the 5 bytes unchanged. -/
def execRffreqAsSlice (buf : Buf40) (s : State) : Host.Outcome State Fault Refusal := answerBuf s buf

/-- RFFREQ.F433 (R59). -/
def execRffreqF433 (s : State) : Host.Outcome State Fault Refusal := answerBuf s (rfFreqBuf s.cfg f433Bits)

/-- RFFREQ.F868 (R60). -/
def execRffreqF868 (s : State) : Host.Outcome State Fault Refusal := answerBuf s (rfFreqBuf s.cfg f868Bits)

/-- RFFREQ.F915 (R61). -/
def execRffreqF915 (s : State) : Host.Outcome State Fault Refusal := answerBuf s (rfFreqBuf s.cfg f915Bits)

end Sys2Proof.Machine
end

