-- ==== Sys2Proof/Machine/TcxoMode.lean ====
section
/-! DEFINITION. Family TCXOMODE: the TCXO-mode packer (43_tcxomode.md). The tick count is opaque (R76). -/

namespace Sys2Proof.Machine

/-- TCXOMODE.NEW (R71). -/
def execTcxomodeNew (s : State) : Host.Outcome State Fault Refusal := answerBuf s (tcxoModeDefault s.cfg)

/-- TCXOMODE.SET_TCXO_TRIM (R72): B[1] := the 3-bit trim code, upper 5 bits 0. -/
def execTcxomodeSetTcxoTrim (buf : Buf40) (trim : TcxoTrim) (s : State) : Host.Outcome State Fault Refusal :=
  answerBuf s { buf with b1 := (tcxoTrimCode trim).setWidth 8 }

/-- TCXOMODE.SET_TIMEOUT (R73): B[2..4] := the low 24 bits of `ticks`, big-endian; truncated, never saturated
(90_conflicts.md C7). -/
def execTcxomodeSetTimeout (buf : Buf40) (ticks : Word) (s : State) : Host.Outcome State Fault Refusal :=
  answerBuf s (withTicks buf ticks)

/-- TCXOMODE.AS_SLICE (R74): the 5 bytes unchanged. -/
def execTcxomodeAsSlice (buf : Buf40) (s : State) : Host.Outcome State Fault Refusal := answerBuf s buf

end Sys2Proof.Machine
end

