-- ==== Sys2Proof/Machine/Dispatch.lean ====
section
/-! DEFINITION. One arm per constructor of Instr, in the order of spec/opcode_table.json. -/

namespace Sys2Proof.Machine

def exec (i : Instr) (s : State) : Host.Outcome State Fault Refusal :=
  match i with
  | .rffreqFromBits bits => Sys2Proof.Machine.execRffreqFromBits bits s
  | .rffreqFromFrequency freqHz => Sys2Proof.Machine.execRffreqFromFrequency freqHz s
  | .rffreqFreq buf => Sys2Proof.Machine.execRffreqFreq buf s
  | .rffreqAsSlice buf => Sys2Proof.Machine.execRffreqAsSlice buf s
  | .rffreqF433 => Sys2Proof.Machine.execRffreqF433 s
  | .rffreqF868 => Sys2Proof.Machine.execRffreqF868 s
  | .rffreqF915 => Sys2Proof.Machine.execRffreqF915 s
  | .paconfigNew => Sys2Proof.Machine.execPaconfigNew s
  | .paconfigSetPaDutyCycle buf v => Sys2Proof.Machine.execPaconfigSetPaDutyCycle buf v s
  | .paconfigSetHpMax buf v => Sys2Proof.Machine.execPaconfigSetHpMax buf v s
  | .paconfigSetPa buf pa => Sys2Proof.Machine.execPaconfigSetPa buf pa s
  | .paconfigAsSlice buf => Sys2Proof.Machine.execPaconfigAsSlice buf s
  | .tcxomodeNew => Sys2Proof.Machine.execTcxomodeNew s
  | .tcxomodeSetTcxoTrim buf trim => Sys2Proof.Machine.execTcxomodeSetTcxoTrim buf trim s
  | .tcxomodeSetTimeout buf ticks => Sys2Proof.Machine.execTcxomodeSetTimeout buf ticks s
  | .tcxomodeAsSlice buf => Sys2Proof.Machine.execTcxomodeAsSlice buf s
  | .packettypeFromBits raw => Sys2Proof.Machine.execPackettypeFromBits raw s
  | .packettypeBits idx => Sys2Proof.Machine.execPackettypeBits idx s
  | .paselBits pa => Sys2Proof.Machine.execPaselBits pa s
  | .paselCmp a b => Sys2Proof.Machine.execPaselCmp a b s
  | .regmodeBits idx => Sys2Proof.Machine.execRegmodeBits idx s
  | .ocpBits idx => Sys2Proof.Machine.execOcpBits idx s
  | .tcxotrimBits idx => Sys2Proof.Machine.execTcxotrimBits idx s
  | .tcxotrimAsMillivolts idx => Sys2Proof.Machine.execTcxotrimAsMillivolts idx s
  | .bufferRffreq opcode bits => Sys2Proof.Machine.execBufferRffreq opcode bits s
  | .bufferPaconfig opcode dutyCycle hpMax pa reserved => Sys2Proof.Machine.execBufferPaconfig opcode dutyCycle hpMax pa reserved s
  | .bufferTcxomode opcode trim ticks => Sys2Proof.Machine.execBufferTcxomode opcode trim ticks s

end Sys2Proof.Machine
end

