-- ==== Sys2Proof/Machine/Fetch.lean ====
section
/-! DEFINITION. What a step does with the request on the port: decode it and execute it, or answer a reserved select. -/

namespace Sys2Proof.Machine

/-- One transaction: the operation the request selects answers; a reserved `opsel`, which the decoder rejects, gets the
response of 30_encoding.md R48 and nothing else happens (log entry 9). -/
def transact (s : State) : Host.Outcome State Fault Refusal :=
  match decode s.req with
  | .ok i => exec i s
  | .error _ => answer s reservedResponse

/-- The low `nbits` bits of `w`, zero-extended to a packed request word and placed on the request port
(30_encoding.md R37). -/
def presentWord (s : State) (nbits w : Nat) : State :=
  s.drive (Request.ofWord (BitVec.ofNat 80 (w % 2 ^ nbits)))

end Sys2Proof.Machine
end

