-- ==== Sys2Proof/Machine/Step.lean ====
section
/-! DEFINITION. The step: one transaction. -/

namespace Sys2Proof.Machine

/-- One step is one transaction (10_state.md R9, D18; log entry 1). -/
def step (s : State) : Host.Outcome State Fault Refusal := transact s

/-- `s` with a packed request word on the request port: the host's act that makes the next step run it (log entry 3). -/
def State.withFetchWord (s : State) (nbits w : Nat) : State := presentWord s nbits w

end Sys2Proof.Machine
end

