-- ==== Sys2Proof/Machine/Script.lean ====
section
/-! DEFINITION. What a host does with the block: serving a sequence of requests (20_memory.md R32), scripts of
transactions (30_encoding.md R51) and the reading of responses (R52). The data dependence between transactions is made
here, by the host, and nowhere else (70_reset_and_hazards.md R109). -/

namespace Sys2Proof.Machine

/-- The response of one transaction from a state, if the step answers. -/
def responseOf (s : State) : Option Response :=
  match step s with
  | .next t => some t.rsp
  | .fault _ => none
  | .refused _ => none

/-- The responses to a sequence of requests, driven one after the other on the same block. -/
def serve (s : State) : List Request → List (Option Response)
  | [] => []
  | r :: rest =>
    match step (s.drive r) with
    | .next t => some t.rsp :: serve t rest
    | .fault _ => none :: serve s rest
    | .refused _ => none :: serve s rest

/-- One line of a script, `t<n> = <MNEMONIC> [<buffer name>] [, <operand>]` (30_encoding.md R51): the select code the
mnemonic stands for, the number of the earlier line whose `buf_out` is `buf_in`, and the operand as `arg`. -/
structure Line where
  opsel : Byte
  buffer : Option Nat
  operand : Word
  deriving DecidableEq, Repr

/-- A script is well formed when every line names earlier lines only (30_encoding.md R51); `n` lines stand before. -/
def scriptWellFormed (n : Nat) : List Line → Bool
  | [] => true
  | l :: rest => (match l.buffer with | none => true | some k => decide (k < n)) && scriptWellFormed (n + 1) rest

/-- The request of a line, given the responses of the lines before it. A line without a buffer name drives zeros on
`buf_in` (as the listings of 95_test_vectors.md part 3 do; DEDUCED, log entry 15). -/
def lineRequest (done : List Response) (l : Line) : Request where
  opsel := l.opsel
  bufIn := match l.buffer with
    | none => .zero
    | some k => match done[k]? with
      | some r => r.bufOut
      | none => .zero
  arg := l.operand

/-- Run a script: the responses of its lines in order, after those already `done`. -/
def runScript (s : State) (done : List Response) : List Line → List Response
  | [] => done
  | l :: rest =>
    match step (s.drive (lineRequest done l)) with
    | .next t => runScript t (done ++ [t.rsp]) rest
    | .fault _ => done
    | .refused _ => done

/-- `x.as_slice()[i]` (30_encoding.md R52): byte `B[i]`; a buffer has bytes 0 to 4 only. -/
def byteAt (b : Buf40) : Nat → Option Byte
  | 0 => some b.b0
  | 1 => some b.b1
  | 2 => some b.b2
  | 3 => some b.b3
  | 4 => some b.b4
  | _ => none

/-- The byte sequence handed to the transport, B[0] first (20_memory.md R23). -/
def transmission (b : Buf40) : List Byte := [b.b0, b.b1, b.b2, b.b3, b.b4]

/-- `Ok(variant)` or `Err(b)` of `PacketType::from_bits`, read off a response (30_encoding.md R52). -/
def packetTypeResult (r : Response) : Except Byte PacketType :=
  if r.err then .error (r.res.extractLsb' 0 8) else .ok (.ofIndex (r.res.extractLsb' 0 2))

/-- `a < b`, `a == b`, `a > b` on PaSel, read off the result of PASEL.CMP (30_encoding.md R52). No operation answers
another value. -/
def paSelOrdering (r : Response) : Option Ordering :=
  if r.res = 3 then some .lt else if r.res = 0 then some .eq else if r.res = 1 then some .gt else none

end Sys2Proof.Machine
end

