-- ==== Sys2Proof/WellFormed.lean ====
section
/-! DEFINITION. What the spec requires of a configuration and of an instruction beside their types. -/

namespace Sys2Proof

/-- The three opcodes are pairwise distinct: "values never overlap" (30_encoding.md R46, 70_reset_and_hazards.md R115). -/
abbrev Config.OpcodesDistinct (c : Config) : Prop :=
  c.opcRffreq ≠ c.opcPaconfig ∧ c.opcRffreq ≠ c.opcTcxomode ∧ c.opcPaconfig ≠ c.opcTcxomode

/-- The two codes of RegMode differ, and the two of Ocp (44_enumerations.md R86, D12). -/
abbrev Config.CodesDistinct (c : Config) : Prop :=
  c.regmodeCode0 ≠ c.regmodeCode1 ∧ c.ocpCode0 ≠ c.ocpCode1

/-- The open millivolt entries lie strictly between 1600 and 3300 (00_scope.md R6, U12). -/
abbrev Config.MillivoltsInRange (c : Config) : Prop :=
  (1600 < c.tcxoMv2.toNat ∧ c.tcxoMv2.toNat < 3300) ∧
  (1600 < c.tcxoMv3.toNat ∧ c.tcxoMv3.toNat < 3300) ∧
  (1600 < c.tcxoMv4.toNat ∧ c.tcxoMv4.toNat < 3300) ∧
  (1600 < c.tcxoMv5.toNat ∧ c.tcxoMv5.toNat < 3300) ∧
  (1600 < c.tcxoMv6.toNat ∧ c.tcxoMv6.toNat < 3300)

/-- The premises the spec puts on the parameters of 00_scope.md R6. The block does not check them (R115): a statement
that needs them takes them as a hypothesis (log entry 19). -/
abbrev Config.WellFormed (c : Config) : Prop :=
  c.OpcodesDistinct ∧ c.CodesDistinct ∧ c.MillivoltsInRange

/-- An operation has no ill-formed operand: every bit pattern of an operand's width is a value of it (D7,
30_encoding.md R39). A buffer layout holds the opcode of its kind, and PaConfig the reserved byte 0x01 (30_encoding.md
R43, R44, R45). -/
def Instr.wellFormed (c : Config) : Instr → Bool
  | .rffreqFromBits _ => true
  | .rffreqFromFrequency _ => true
  | .rffreqFreq _ => true
  | .rffreqAsSlice _ => true
  | .rffreqF433 => true
  | .rffreqF868 => true
  | .rffreqF915 => true
  | .paconfigNew => true
  | .paconfigSetPaDutyCycle _ _ => true
  | .paconfigSetHpMax _ _ => true
  | .paconfigSetPa _ _ => true
  | .paconfigAsSlice _ => true
  | .tcxomodeNew => true
  | .tcxomodeSetTcxoTrim _ _ => true
  | .tcxomodeSetTimeout _ _ => true
  | .tcxomodeAsSlice _ => true
  | .packettypeFromBits _ => true
  | .packettypeBits _ => true
  | .paselBits _ => true
  | .paselCmp _ _ => true
  | .regmodeBits _ => true
  | .ocpBits _ => true
  | .tcxotrimBits _ => true
  | .tcxotrimAsMillivolts _ => true
  | .bufferRffreq opcode _ => decide (opcode = c.opcRffreq)
  | .bufferPaconfig opcode _ _ _ reserved => decide (opcode = c.opcPaconfig ∧ reserved = 0x01)
  | .bufferTcxomode opcode _ _ => decide (opcode = c.opcTcxomode)

end Sys2Proof
end

