-- ==== Sys2Proof/Safety.lean ====
section
/-! DEFINITION. The terms claims use: what every response the block gives looks like, which buffers a host can build,
and the caller's obligations of 70_reset_and_hazards.md, which the block does not enforce. -/

namespace Sys2Proof.Machine

/-! Responses. -/

/-- What a response port may hold: at most one of `err` and `ill` (60_exceptions.md R92); a reserved select leaves all
else 0 (30_encoding.md R48); a rejected code is a byte from 4 up, with no buffer (44_enumerations.md R77); a response
carries a buffer or a scalar, not both (30_encoding.md R38, R41); no scalar exceeds 4_095_999_999 (41_rffreq.md R57). -/
def Response.Lawful (r : Response) : Prop :=
  ¬(r.err = true ∧ r.ill = true) ∧
  (r.ill = true → r.bufOut = .zero ∧ r.res = 0) ∧
  (r.err = true → r.bufOut = .zero ∧ 4 ≤ r.res.toNat ∧ r.res.toNat ≤ 255) ∧
  (r.bufOut ≠ .zero → r.res = 0) ∧
  r.res.toNat ≤ 4095999999

/-- The invariant of the machine: the constants meet the spec's premises and the response port holds a lawful response. -/
def State.Inv (s : State) : Prop := s.cfg.WellFormed ∧ s.rsp.Lawful

/-! Reading an instruction's answer. -/

/-- The buffer an instruction answers with, if it answers. -/
def bufferOf (s : State) (i : Instr) : Option Buf40 :=
  match exec i s with
  | .next t => some t.rsp.bufOut
  | .fault _ => none
  | .refused _ => none

/-- The scalar an instruction answers with, if it answers. -/
def scalarOf (s : State) (i : Instr) : Option Word :=
  match exec i s with
  | .next t => some t.rsp.res
  | .fault _ => none
  | .refused _ => none

/-- A buffer of an opcode and a 32-bit number, most significant byte first (30_encoding.md R43), by division. -/
def bigEndianBuf (opcode : Byte) (n : Nat) : Buf40 :=
  ⟨opcode, BitVec.ofNat 8 (n / 2 ^ 24), BitVec.ofNat 8 (n / 2 ^ 16), BitVec.ofNat 8 (n / 2 ^ 8), BitVec.ofNat 8 n⟩

/-- The number in bytes 1 to 4 of a buffer, most significant byte first (20_memory.md R25). -/
def bigEndianValue (b : Buf40) : Nat :=
  ((b.b1.toNat * 256 + b.b2.toNat) * 256 + b.b3.toNat) * 256 + b.b4.toNat

/-! Which request bits an operation reads. -/

/-- The reserved `opsel` values (30_encoding.md R48). -/
def reservedSelect (opsel : Byte) : Bool :=
  let n := opsel.toNat
  decide (n ≤ 0x0F ∨ (0x17 ≤ n ∧ n ≤ 0x1F) ∨ (0x25 ≤ n ∧ n ≤ 0x2F) ∨ (0x34 ≤ n ∧ n ≤ 0x3F) ∨ 0x48 ≤ n)

/-- The column "uses `buf_in`" of the operation map (30_encoding.md R38). -/
def usesBuf (opsel : Byte) : Bool :=
  decide (opsel ∈ [0x12#8, 0x13#8, 0x21#8, 0x22#8, 0x23#8, 0x24#8, 0x31#8, 0x32#8, 0x33#8])

/-- The column "uses `arg` bits" of the operation map (30_encoding.md R38), as a mask. -/
def argMask (opsel : Byte) : Word :=
  if opsel ∈ [0x10#8, 0x11#8, 0x32#8] then 0xFFFFFFFF
  else if opsel ∈ [0x21#8, 0x22#8, 0x40#8] then 0xFF
  else if opsel ∈ [0x31#8, 0x46#8, 0x47#8] then 0x7
  else if opsel = 0x41#8 then 0x3
  else if opsel ∈ [0x23#8, 0x42#8, 0x44#8, 0x45#8] then 0x1
  else if opsel = 0x43#8 then 0x101
  else 0

/-! Buffers a host can build. -/

/-- One PaConfig setter call. -/
inductive PaSetter where
  | dutyCycle (v : Byte)
  | hpMax (v : Byte)
  | pa (p : PaSel)
  deriving DecidableEq, Repr

/-- The instruction of a PaConfig setter call on a buffer. -/
def PaSetter.instr (b : Buf40) : PaSetter → Instr
  | .dutyCycle v => .paconfigSetPaDutyCycle b v
  | .hpMax v => .paconfigSetHpMax b v
  | .pa p => .paconfigSetPa b p

/-- The operand of a SET_PA_DUTY_CYCLE call. -/
def PaSetter.asDutyCycle : PaSetter → Option Byte
  | .dutyCycle v => some v
  | .hpMax _ => none
  | .pa _ => none

/-- The operand of a SET_HP_MAX call. -/
def PaSetter.asHpMax : PaSetter → Option Byte
  | .dutyCycle _ => none
  | .hpMax v => some v
  | .pa _ => none

/-- The operand of a SET_PA call. -/
def PaSetter.asPa : PaSetter → Option PaSel
  | .dutyCycle _ => none
  | .hpMax _ => none
  | .pa p => some p

/-- One TcxoMode setter call. -/
inductive TcxoSetter where
  | trim (t : TcxoTrim)
  | timeout (ticks : Word)
  deriving DecidableEq, Repr

/-- The operand of a SET_TCXO_TRIM call. -/
def TcxoSetter.asTrim : TcxoSetter → Option TcxoTrim
  | .trim t => some t
  | .timeout _ => none

/-- The operand of a SET_TIMEOUT call. -/
def TcxoSetter.asTimeout : TcxoSetter → Option Word
  | .trim _ => none
  | .timeout ticks => some ticks

/-- The instruction of a TcxoMode setter call on a buffer. -/
def TcxoSetter.instr (b : Buf40) : TcxoSetter → Instr
  | .trim t => .tcxomodeSetTcxoTrim b t
  | .timeout ticks => .tcxomodeSetTimeout b ticks

/-- A builder chain of PaConfig setters, each call on the buffer the one before answered (70_reset_and_hazards.md R109). -/
def paChain (s : State) : Buf40 → List PaSetter → Option Buf40
  | b, [] => some b
  | b, x :: rest => (bufferOf s (x.instr b)).bind fun b' => paChain s b' rest

/-- A builder chain of TcxoMode setters. -/
def tcxoChain (s : State) : Buf40 → List TcxoSetter → Option Buf40
  | b, [] => some b
  | b, x :: rest => (bufferOf s (x.instr b)).bind fun b' => tcxoChain s b' rest

/-- The buffers reached from PACONFIG.NEW by setters (42_paconfig.md R69). -/
def PaReachable (s : State) (b : Buf40) : Prop :=
  ∃ b₀ xs, bufferOf s .paconfigNew = some b₀ ∧ paChain s b₀ xs = some b

/-- The buffers reached from TCXOMODE.NEW by setters (43_tcxomode.md R75). -/
def TcxoReachable (s : State) (b : Buf40) : Prop :=
  ∃ b₀ xs, bufferOf s .tcxomodeNew = some b₀ ∧ tcxoChain s b₀ xs = some b

/-! The caller's obligations. -/

/-- The bound the duty cycle must stay below (70_reset_and_hazards.md R107). At exactly 400 MHz with Lp the parameter
PA_LIMIT_AT_400MHZ decides, and `unspecified` gives no bound (D29, log entry 8). -/
def dutyCycleBound (c : Config) (pa : PaSel) (hz : Nat) : Option Nat :=
  match pa with
  | .hp => some 4
  | .lp =>
    if 400000000 < hz then some 7
    else if hz < 400000000 then some 4
    else match c.paLimitAt400MHz with
      | .lpHighBand => some 7
      | .lpLowBand => some 4
      | .unspecified => none

/-- The frequency is one the radio can synthesise and one FROM_FREQUENCY does not wrap (70_reset_and_hazards.md R108,
RF_RANGE of D30). -/
def frequencyLegal (c : Config) (hz : Nat) : Bool :=
  decide (c.rfRangeLow ≤ hz ∧ hz ≤ c.rfRangeHigh ∧ hz < 4096000000)

/-- The tick count is within 24 bits (70_reset_and_hazards.md R110). -/
def ticksLegal (ticks : Word) : Bool := decide (ticks.toNat < 2 ^ 24)

/-- A buffer belongs to the family whose opcode is its byte 0 (70_reset_and_hazards.md R111). -/
def belongsTo (c : Config) (k : OperationCode) (b : Buf40) : Bool := decide (b.b0 = operationCode c k)

end Sys2Proof.Machine
end

