-- ==== Sys2Proof/Certificates/Slice0/Obligations.lean ====
section
/-! DEFINITION. The statements for the provers, from the numbered rules of spec/. Every one holds for every value of the
constants `s.cfg`; one that needs the spec's premises on them says so in a hypothesis. A response record is written out
whole, so a result equation is also the frame: the request port, the constants and every response field not named by the
rule are as the equation says. -/

open Sys2Proof Sys2Proof.Machine

/-! Encoding. -/

/-- Decode and encode agree for every row of the opcode table, every operand at every value (30_encoding.md sections 1
and 2). Tier 3. -/
def Obligations.DecodeInvertsEncode : Prop :=
  ∀ (c : Config) (i : Instr), c.OpcodesDistinct → i.wellFormed c = true → decodeCode c (encode i) = .ok i

/-- The operation map and operand assembly (30_encoding.md section 1): each select code, and the low bits of `arg` each
operation reads. -/
def Obligations.OperationMapSelectsEachOperation : Prop :=
  ∀ r : Request,
    (r.opsel = 0x10 → decode r = .ok (.rffreqFromBits r.arg)) ∧
    (r.opsel = 0x11 → decode r = .ok (.rffreqFromFrequency r.arg)) ∧
    (r.opsel = 0x12 → decode r = .ok (.rffreqFreq r.bufIn)) ∧
    (r.opsel = 0x13 → decode r = .ok (.rffreqAsSlice r.bufIn)) ∧
    (r.opsel = 0x14 → decode r = .ok .rffreqF433) ∧
    (r.opsel = 0x15 → decode r = .ok .rffreqF868) ∧
    (r.opsel = 0x16 → decode r = .ok .rffreqF915) ∧
    (r.opsel = 0x20 → decode r = .ok .paconfigNew) ∧
    (r.opsel = 0x21 → decode r = .ok (.paconfigSetPaDutyCycle r.bufIn (BitVec.ofNat 8 r.arg.toNat))) ∧
    (r.opsel = 0x22 → decode r = .ok (.paconfigSetHpMax r.bufIn (BitVec.ofNat 8 r.arg.toNat))) ∧
    (r.opsel = 0x23 → decode r = .ok (.paconfigSetPa r.bufIn (if r.arg.toNat % 2 = 0 then .hp else .lp))) ∧
    (r.opsel = 0x24 → decode r = .ok (.paconfigAsSlice r.bufIn)) ∧
    (r.opsel = 0x30 → decode r = .ok .tcxomodeNew) ∧
    (r.opsel = 0x31 → decode r = .ok (.tcxomodeSetTcxoTrim r.bufIn (.ofIndex (BitVec.ofNat 3 r.arg.toNat)))) ∧
    (r.opsel = 0x32 → decode r = .ok (.tcxomodeSetTimeout r.bufIn r.arg)) ∧
    (r.opsel = 0x33 → decode r = .ok (.tcxomodeAsSlice r.bufIn)) ∧
    (r.opsel = 0x40 → decode r = .ok (.packettypeFromBits (BitVec.ofNat 8 r.arg.toNat))) ∧
    (r.opsel = 0x41 → decode r = .ok (.packettypeBits (.ofIndex (BitVec.ofNat 2 r.arg.toNat)))) ∧
    (r.opsel = 0x42 → decode r = .ok (.paselBits (if r.arg.toNat % 2 = 0 then .hp else .lp))) ∧
    (r.opsel = 0x43 → decode r = .ok (.paselCmp (if r.arg.toNat % 2 = 0 then .hp else .lp)
      (if r.arg.toNat / 256 % 2 = 0 then .hp else .lp))) ∧
    (r.opsel = 0x44 → decode r = .ok (.regmodeBits (if r.arg.toNat % 2 = 0 then .rm0 else .rm1))) ∧
    (r.opsel = 0x45 → decode r = .ok (.ocpBits (if r.arg.toNat % 2 = 0 then .ocp0 else .ocp1))) ∧
    (r.opsel = 0x46 → decode r = .ok (.tcxotrimBits (.ofIndex (BitVec.ofNat 3 r.arg.toNat)))) ∧
    (r.opsel = 0x47 → decode r = .ok (.tcxotrimAsMillivolts (.ofIndex (BitVec.ofNat 3 r.arg.toNat))))

/-- The listed reserved ranges are exactly the select codes that name no operation (30_encoding.md section 4); the
answer to such a request has `ill` = 1 and every other field 0, and no other answer has `ill` = 1. -/
def Obligations.ReservedSelectsAnswerIll : Prop :=
  ∀ s : State,
    (reservedSelect s.req.opsel = true →
      decode s.req = .error (.reservedSelect s.req.opsel) ∧
      step s = .next { s with rsp := { bufOut := ⟨0, 0, 0, 0, 0⟩, res := 0, err := false, ill := true } }) ∧
    (reservedSelect s.req.opsel = false →
      (∃ i, decode s.req = .ok i) ∧ ∃ t, step s = .next t ∧ t.rsp.ill = false)

/-- Decoding reads no bit that the operation map does not list (30_encoding.md section 1): another `buf_in` where none
is used, and other high bits of `arg`, give the same instruction. -/
def Obligations.DecodeIgnoresUnusedBits : Prop :=
  ∀ (r : Request) (b : Buf40) (a : Word),
    (usesBuf r.opsel = true → b = r.bufIn) → a &&& argMask r.opsel = r.arg &&& argMask r.opsel →
    decode { opsel := r.opsel, bufIn := b, arg := a } = decode r

/-- Request words written out from the listings of 95_test_vectors.md decode to the operations they stand for. -/
def Obligations.SampleRequestWordsDecode : Prop :=
  decodeTableWord 80 0x1100000000003689CAC0 = some (.rffreqFromFrequency 915000000) ∧
  decodeTableWord 80 0x12863930000000000000 = some (.rffreqFreq ⟨0x86, 0x39, 0x30, 0x00, 0x00⟩) ∧
  decodeTableWord 80 0x2295070000010000000B = some (.paconfigSetHpMax ⟨0x95, 0x07, 0x00, 0x00, 0x01⟩ 0x0B) ∧
  decodeTableWord 80 0x32970100000000123456 = some (.tcxomodeSetTimeout ⟨0x97, 0x01, 0x00, 0x00, 0x00⟩ 0x123456) ∧
  decodeTableWord 80 0x43000000000000000100 = some (.paselCmp .hp .lp) ∧
  decodeTableWord 80 0x99000000000000001234 = none

/-- Where the fields of the packed response and request words lie (30_encoding.md section 1). -/
def Obligations.PackedWordsPlaceTheirFields : Prop :=
  (∀ r : Response,
    r.toWord.getLsbD 73 = r.ill ∧ r.toWord.getLsbD 72 = r.err ∧
    r.toWord.toNat / 2 ^ 32 % 2 ^ 40 = r.bufOut.toVec.toNat ∧ r.toWord.toNat % 2 ^ 32 = r.res.toNat) ∧
  (∀ r : Request,
    r.toWord.toNat = (r.opsel.toNat * 2 ^ 40 + r.bufIn.toVec.toNat) * 2 ^ 32 + r.arg.toNat ∧
    r.bufIn.toVec.toNat = r.bufIn.b0.toNat * 2 ^ 32 + bigEndianValue r.bufIn)

/-! The step. -/

/-- A step runs the decoded instruction, whether the request stands on the port or is presented as a packed word. The
clauses about a presented word are the model's choice and no rule of the spec: presenting a word is the host's act that
brings a program to run (DESIGN CHOICE, log entry 3), and until the step the response port keeps what it held (DESIGN
CHOICE, log entry 16, unsafe: the spec's block is combinational and has no such moment). -/
def Obligations.StepRunsTheDecodedInstruction : Prop :=
  (∀ (s : State) (i : Instr), decode s.req = .ok i → step s = exec i s) ∧
  (∀ (s : State) (w : Nat) (i : Instr), decodeTableWord 80 w = some i →
    step (s.withFetchWord 80 w) = exec i (s.withFetchWord 80 w) ∧
    (s.withFetchWord 80 w).cfg = s.cfg ∧ (s.withFetchWord 80 w).rsp = s.rsp)

/-- R8: every request gets a response, whatever it holds, and only PACKETTYPE.FROM_BITS has a failure outcome, which is
an ordinary result: the rejected byte in `res`. -/
def Obligations.EveryRequestIsAnswered : Prop :=
  ∀ s : State, ∃ t, step s = .next t ∧ t.req = s.req ∧ t.cfg = s.cfg ∧
    (t.rsp.err = true → s.req.opsel = 0x40 ∧ t.rsp.res.toNat = s.req.arg.toNat % 256)

/-- R87: the one failure is an unrecognised packet-type code, surfaced as the original byte. -/
def Obligations.OnlyUnrecognisedPacketTypeFails : Prop :=
  ∀ s t : State, step s = .next t →
    (t.rsp.err = true ↔ s.req.opsel = 0x40 ∧ 4 ≤ s.req.arg.toNat % 256) ∧
    (t.rsp.err = true → t.rsp = { bufOut := ⟨0, 0, 0, 0, 0⟩, res := BitVec.ofNat 32 (s.req.arg.toNat % 256), err := true, ill := false })

/-- Executing an instruction changes the response port only: the request is the host's and the constants are hardwired
(10_state.md sections 4 and 5). -/
def Obligations.ExecChangesTheResponseOnly : Prop :=
  ∀ (i : Instr) (s t : State), exec i s = .next t → t.req = s.req ∧ t.cfg = s.cfg

/-- Fields an operation does not produce are 0 (30_encoding.md section 1, column "produces"): a buffer comes with no
scalar and no error, a scalar with no buffer. -/
def Obligations.UnproducedFieldsAreZero : Prop :=
  ∀ s t : State, step s = .next t →
    (s.req.opsel ∈ [0x10#8, 0x11, 0x13, 0x14, 0x15, 0x16, 0x20, 0x21, 0x22, 0x23, 0x24, 0x30, 0x31, 0x32, 0x33] →
      t.rsp.res = 0 ∧ t.rsp.err = false ∧ t.rsp.ill = false) ∧
    (s.req.opsel ∈ [0x12#8, 0x41, 0x42, 0x43, 0x44, 0x45, 0x46, 0x47] →
      t.rsp.bufOut = ⟨0, 0, 0, 0, 0⟩ ∧ t.rsp.err = false ∧ t.rsp.ill = false) ∧
    (s.req.opsel = 0x40 → t.rsp.bufOut = ⟨0, 0, 0, 0, 0⟩ ∧ t.rsp.ill = false)

/-- R24: which buffer bytes each operation reads and writes. -/
def Obligations.BufferBytesReadAndWritten : Prop :=
  (∀ (s : State) (b : Buf40), usesBuf s.req.opsel = false →
    responseOf (s.drive { s.req with bufIn := b }) = responseOf s) ∧
  (∀ (s : State) (b : Byte), s.req.opsel = 0x12 →
    responseOf (s.drive { s.req with bufIn := { s.req.bufIn with b0 := b } }) = responseOf s) ∧
  (∀ s t : State, step s = .next t →
    (s.req.opsel ∈ [0x13#8, 0x24, 0x33] → t.rsp.bufOut = s.req.bufIn) ∧
    (s.req.opsel ∈ [0x21#8, 0x31] → t.rsp.bufOut = { s.req.bufIn with b1 := t.rsp.bufOut.b1 }) ∧
    (s.req.opsel = 0x22 → t.rsp.bufOut = { s.req.bufIn with b2 := t.rsp.bufOut.b2 }) ∧
    (s.req.opsel = 0x23 → t.rsp.bufOut = { s.req.bufIn with b3 := t.rsp.bufOut.b3 }) ∧
    (s.req.opsel = 0x32 → t.rsp.bufOut = { s.req.bufIn with b2 := t.rsp.bufOut.b2, b3 := t.rsp.bufOut.b3, b4 := t.rsp.bufOut.b4 }) ∧
    (s.req.opsel ∈ [0x12#8, 0x40, 0x41, 0x42, 0x43, 0x44, 0x45, 0x46, 0x47] → t.rsp.bufOut = ⟨0, 0, 0, 0, 0⟩)) ∧
  (∀ (s : State) (b : Buf40) (t u : State),
    step s = .next t → step (s.drive { s.req with bufIn := b }) = .next u →
    (s.req.opsel ∈ [0x21#8, 0x31] → u.rsp.bufOut.b1 = t.rsp.bufOut.b1) ∧
    (s.req.opsel = 0x22 → u.rsp.bufOut.b2 = t.rsp.bufOut.b2) ∧
    (s.req.opsel = 0x23 → u.rsp.bufOut.b3 = t.rsp.bufOut.b3) ∧
    (s.req.opsel = 0x32 →
      u.rsp.bufOut.b2 = t.rsp.bufOut.b2 ∧ u.rsp.bufOut.b3 = t.rsp.bufOut.b3 ∧ u.rsp.bufOut.b4 = t.rsp.bufOut.b4))

/-! Invariants, determinism, clients. -/

/-- Every step keeps the invariant: the constants keep the spec's premises and the response port holds a lawful response
(60_exceptions.md section 2, 30_encoding.md sections 1 and 4). Tier 3. -/
def Obligations.StepKeepsInvariant : Prop :=
  ∀ s t : State, s.Inv → step s = .next t → t.Inv

/-- The reset state meets the invariant. The values of the ports at reset and of the constants are the model's choice
(log entries 2 and 5). -/
def Obligations.ResetMeetsInvariant : Prop := State.reset.Inv

/-- At reset the response port already holds the response to the request port, as at all times (70_reset_and_hazards.md
section 1); the request at reset is the model's choice (log entry 2). -/
def Obligations.ResetIsSettled : Prop := step State.reset = .next State.reset

/-- Repeating a request repeats the response and changes nothing (20_memory.md section 4). -/
def Obligations.RepeatedStepChangesNothing : Prop :=
  ∀ s t : State, step s = .next t → step t = .next t

/-- A response is a function of the request and the constants, and of nothing else (10_state.md section 1): not of what
stood on the response port, and not of the request fields the operation does not use. -/
def Obligations.ResponseDependsOnRequestOnly : Prop :=
  ∀ s s' : State, s.cfg = s'.cfg → s.req.opsel = s'.req.opsel →
    (usesBuf s.req.opsel = true → s.req.bufIn = s'.req.bufIn) →
    s.req.arg &&& argMask s.req.opsel = s'.req.arg &&& argMask s.req.opsel →
    responseOf s = responseOf s' ∧ (responseOf s).isSome = true

/-- R32: (a) a response depends on its request alone; (b) any interleaving of the transactions of any number of clients
gives each client the responses it would get alone; (c) two transactions commute. That the clients' requests reach the
block as one tagged sequence is the model's choice (DESIGN CHOICE, log entry 18). -/
def Obligations.ClientsDoNotInterfere : Prop :=
  (∀ (s s' : State) (rs : List Request), s.cfg = s'.cfg →
    serve s rs = rs.map (fun r => responseOf (s'.drive r))) ∧
  (∀ (s : State) (client : Nat) (tagged : List (Nat × Request)),
    ((tagged.map Prod.fst).zip (serve s (tagged.map Prod.snd))).filterMap
        (fun p => if p.1 = client then some p.2 else none) =
      serve s ((tagged.filter (fun p => p.1 = client)).map Prod.snd)) ∧
  (∀ (s : State) (q r : Request) (x y : Option Response), serve s [q, r] = [x, y] → serve s [r, q] = [y, x])

/-- A script runs line by line (30_encoding.md section 6), and its only data dependence is the one the host makes
(70_reset_and_hazards.md section 3). In the order of the clauses: its responses are those of its first lines followed by
those of the rest, every line gets one, and later lines change no earlier response; a line appends the block's response
to its request; that request has the line's select code and operand and the `buf_out` of the earlier line it names; in a
well-formed script every line that names line `k` is driven the `buf_out` of the script's own response `k`. That a line
without a buffer name is driven zeros on `buf_in` is the model's reading (DEDUCED, log entry 15). -/
def Obligations.ScriptRunsLineByLine : Prop :=
  (∀ (s : State) (done : List Response) (xs ys : List Line),
    runScript s done (xs ++ ys) = runScript s (runScript s done xs) ys ∧
    (runScript s done xs).length = done.length + xs.length ∧
    done <+: runScript s done xs) ∧
  (∀ (s : State) (done : List Response) (l : Line),
    ∃ r, responseOf (s.drive (lineRequest done l)) = some r ∧ runScript s done [l] = done ++ [r]) ∧
  (∀ (done : List Response) (l : Line),
    (lineRequest done l).opsel = l.opsel ∧ (lineRequest done l).arg = l.operand ∧
    (∀ (k : Nat) (r : Response), l.buffer = some k → done[k]? = some r → (lineRequest done l).bufIn = r.bufOut) ∧
    (l.buffer = none → (lineRequest done l).bufIn = ⟨0, 0, 0, 0, 0⟩)) ∧
  (∀ (s : State) (done : List Response) (xs ys : List Line) (l : Line) (k : Nat),
    scriptWellFormed done.length (xs ++ l :: ys) = true → l.buffer = some k →
    ∃ r, (runScript s done (xs ++ l :: ys))[k]? = some r ∧
      (lineRequest (runScript s done xs) l).bufIn = r.bufOut)

/-! Family RFFREQ. -/

/-- R55: FROM_BITS prepends the opcode and stores the register value big-endian; all 2^32 values. -/
def Obligations.FromBitsStoresBigEndian : Prop :=
  (∀ (s : State) (bits : Word), exec (.rffreqFromBits bits) s =
    .next { s with rsp := { bufOut := bigEndianBuf s.cfg.opcRffreq bits.toNat, res := 0, err := false, ill := false } }) ∧
  (∀ s : State, s.req.opsel = 0x10 → step s = exec (.rffreqFromBits s.req.arg) s)

/-- FROM_FREQUENCY stores floor(f * 2^25 / 32_000_000), narrowed as NARROW_MODE says: the low 32 bits (the spec's
decision) or the largest value (log entry 7). -/
def Obligations.FromFrequencyStoresTheFloorQuotient : Prop :=
  (∀ (s : State) (f : Word), exec (.rffreqFromFrequency f) s =
    .next { s with rsp := {
      bufOut := bigEndianBuf s.cfg.opcRffreq
        (match s.cfg.narrowMode with
          | .wrap => f.toNat * 2 ^ 25 / 32000000 % 2 ^ 32
          | .saturate => min (f.toNat * 2 ^ 25 / 32000000) (2 ^ 32 - 1)),
      res := 0, err := false, ill := false } }) ∧
  (∀ s : State, s.req.opsel = 0x11 → step s = exec (.rffreqFromFrequency s.req.arg) s)

/-- R57: FREQ is floor(32_000_000 * bits / 2^25), never above 4_095_999_999, so the cast down to 32 bits loses nothing;
byte 0 is not examined. -/
def Obligations.FreqIsTheFloorProduct : Prop :=
  (∀ (s : State) (b : Buf40), exec (.rffreqFreq b) s =
    .next { s with rsp := { bufOut := ⟨0, 0, 0, 0, 0⟩, res := BitVec.ofNat 32 (32000000 * bigEndianValue b / 2 ^ 25), err := false, ill := false } } ∧
    32000000 * bigEndianValue b / 2 ^ 25 ≤ 4095999999) ∧
  (∀ s : State, s.req.opsel = 0x12 → step s = exec (.rffreqFreq s.req.bufIn) s)

/-- R58, R68, R74: the three AS_SLICE operations return the five bytes unchanged, to be sent B[0] first. -/
def Obligations.AsSliceReturnsTheBufferUnchanged : Prop :=
  (∀ (s : State) (b : Buf40),
    exec (.rffreqAsSlice b) s = .next { s with rsp := { bufOut := b, res := 0, err := false, ill := false } } ∧
    exec (.paconfigAsSlice b) s = .next { s with rsp := { bufOut := b, res := 0, err := false, ill := false } } ∧
    exec (.tcxomodeAsSlice b) s = .next { s with rsp := { bufOut := b, res := 0, err := false, ill := false } } ∧
    transmission b = [b.b0, b.b1, b.b2, b.b3, b.b4]) ∧
  (∀ s : State,
    (s.req.opsel = 0x13 → step s = exec (.rffreqAsSlice s.req.bufIn) s) ∧
    (s.req.opsel = 0x24 → step s = exec (.paconfigAsSlice s.req.bufIn) s) ∧
    (s.req.opsel = 0x33 → step s = exec (.tcxomodeAsSlice s.req.bufIn) s))

/-- R59, R60, R61: the presets, equal to FROM_FREQUENCY of 433, 868 and 915 MHz, and FREQ of each is that frequency. -/
def Obligations.PresetsAreTheirFrequencies : Prop :=
  (∀ s : State,
    exec .rffreqF433 s = .next { s with rsp := { bufOut := ⟨s.cfg.opcRffreq, 0x1B, 0x10, 0x00, 0x00⟩, res := 0, err := false, ill := false } } ∧
    exec .rffreqF868 s = .next { s with rsp := { bufOut := ⟨s.cfg.opcRffreq, 0x36, 0x40, 0x00, 0x00⟩, res := 0, err := false, ill := false } } ∧
    exec .rffreqF915 s = .next { s with rsp := { bufOut := ⟨s.cfg.opcRffreq, 0x39, 0x30, 0x00, 0x00⟩, res := 0, err := false, ill := false } } ∧
    exec .rffreqF433 s = exec (.rffreqFromFrequency 433000000) s ∧
    exec .rffreqF868 s = exec (.rffreqFromFrequency 868000000) s ∧
    exec .rffreqF915 s = exec (.rffreqFromFrequency 915000000) s ∧
    scalarOf s (.rffreqFreq ⟨s.cfg.opcRffreq, 0x1B, 0x10, 0x00, 0x00⟩) = some 433000000 ∧
    scalarOf s (.rffreqFreq ⟨s.cfg.opcRffreq, 0x36, 0x40, 0x00, 0x00⟩) = some 868000000 ∧
    scalarOf s (.rffreqFreq ⟨s.cfg.opcRffreq, 0x39, 0x30, 0x00, 0x00⟩) = some 915000000) ∧
  (∀ s : State,
    (s.req.opsel = 0x14 → step s = exec .rffreqF433 s) ∧
    (s.req.opsel = 0x15 → step s = exec .rffreqF868 s) ∧
    (s.req.opsel = 0x16 → step s = exec .rffreqF915 s))

/-- R43: every buffer made by an RFFREQ operation is the opcode followed by the 32 register bits, all 2^32 values, so the
register value is the low 32 bits of the buffer. -/
def Obligations.RfFreqBuffersHaveTheLayout : Prop :=
  ∀ s : State,
    (∀ bits : Word, ∃ b, bufferOf s (.rffreqFromBits bits) = some b ∧ b.toVec = s.cfg.opcRffreq ++ bits ∧
      b.toVec.toNat % 2 ^ 32 = bits.toNat) ∧
    (∀ (i : Instr) (b : Buf40), ((∃ f, i = .rffreqFromFrequency f) ∨ i = .rffreqF433 ∨ i = .rffreqF868 ∨ i = .rffreqF915) →
      bufferOf s i = some b → ∃ bits : Word, b.toVec = s.cfg.opcRffreq ++ bits ∧ bits.toNat = bigEndianValue b)

/-- The two conversions are exact integer functions on a 64-bit intermediate that never wraps: the floor quotients, the
equivalent forms, and the exact ranges (41_rffreq.md section 1). -/
def Obligations.ConversionsAreExactFloors : Prop :=
  (∀ f : Word,
    (rfEncode f).toNat = f.toNat * 2 ^ 25 / 32000000 ∧ (rfEncode f).toNat = f.toNat * 16384 / 15625 ∧
    (rfEncode f).toNat ≤ 4503599626 ∧ ((rfEncode f).toNat < 2 ^ 32 ↔ f.toNat ≤ 4095999999) ∧
    f.toNat * 2 ^ 25 < 2 ^ 57) ∧
  (∀ b : Word,
    (rfDecode b).toNat = 32000000 * b.toNat / 2 ^ 25 ∧ (rfDecode b).toNat = b.toNat * 15625 / 16384 ∧
    (rfDecode b).toNat ≤ 4095999999 ∧ 32000000 * b.toNat < 2 ^ 57)

/-- Decode after encode, up to 4_095_999_999 Hz: the frequency itself when 15_625 divides it, one Hz less otherwise
(41_rffreq.md section 3, law (a)). -/
def Obligations.DecodeAfterEncodeLosesAtMostOneHz : Prop :=
  ∀ (s : State) (f : Word), f.toNat ≤ 4095999999 →
    ∃ b, bufferOf s (.rffreqFromFrequency f) = some b ∧
      scalarOf s (.rffreqFreq b) = some (if 15625 ∣ f.toNat then f else f - 1)

/-- Encode after decode: the register value, or one or two less, as the remainder of the decode division says
(41_rffreq.md section 3, law (b)); it is not the identity (90_conflicts.md C2). -/
def Obligations.EncodeAfterDecodeLosesAtMostTwoUnits : Prop :=
  ∀ (s : State) (b : Buf40), ∃ hz b',
    scalarOf s (.rffreqFreq b) = some hz ∧ bufferOf s (.rffreqFromFrequency hz) = some b' ∧
    b'.b0 = s.cfg.opcRffreq ∧
    bigEndianValue b' +
      (if bigEndianValue b * 15625 % 16384 = 0 then 0
       else if bigEndianValue b * 15625 % 16384 ≤ 15625 then 1 else 2) = bigEndianValue b

/-- FROM_FREQUENCY is strictly increasing below the narrowing limit, FREQ is non-decreasing and not injective
(41_rffreq.md section 3, law (c)). -/
def Obligations.ConversionsAreMonotone : Prop :=
  (∀ (s : State) (f g : Word) (b b' : Buf40), f.toNat < g.toNat → g.toNat ≤ 4095999999 →
    bufferOf s (.rffreqFromFrequency f) = some b → bufferOf s (.rffreqFromFrequency g) = some b' →
    bigEndianValue b < bigEndianValue b') ∧
  (∀ (s : State) (b b' : Buf40) (x y : Word), bigEndianValue b ≤ bigEndianValue b' →
    scalarOf s (.rffreqFreq b) = some x → scalarOf s (.rffreqFreq b') = some y → x.toNat ≤ y.toNat) ∧
  (∀ (s : State) (op : Byte),
    scalarOf s (.rffreqFreq ⟨op, 0, 0, 0, 21⟩) = some 20 ∧ scalarOf s (.rffreqFreq ⟨op, 0, 0, 0, 22⟩) = some 20)

/-- Whole multiples of 15_625 Hz convert exactly both ways, and no frequency has register value 21 (41_rffreq.md
section 3, laws (d) and (e)). -/
def Obligations.MultiplesAreFixedAndEncodeIsNotOnto : Prop :=
  (∀ (s : State) (k : Nat), 15625 * k ≤ 4095999999 →
    bufferOf s (.rffreqFromFrequency (BitVec.ofNat 32 (15625 * k))) = some (bigEndianBuf s.cfg.opcRffreq (16384 * k)) ∧
    scalarOf s (.rffreqFreq (bigEndianBuf s.cfg.opcRffreq (16384 * k))) = some (BitVec.ofNat 32 (15625 * k))) ∧
  (∀ f : Word, (rfEncode f).toNat ≠ 21)

/-- FROM_FREQUENCY stands for FROM_BITS of the quotient, the comparison results and the accepted or rejected packet type
read back from the responses, and `as_slice()[i]` is byte i in transmission order (30_encoding.md section 6). -/
def Obligations.PseudoOperationsStandForOperations : Prop :=
  (∀ (s : State) (f : Word), f.toNat ≤ 4095999999 →
    exec (.rffreqFromFrequency f) s = exec (.rffreqFromBits (BitVec.ofNat 32 (f.toNat * 2 ^ 25 / 32000000))) s) ∧
  (∀ s : State,
    exec .rffreqF433 s = exec (.rffreqFromBits 0x1B100000) s ∧
    exec .rffreqF868 s = exec (.rffreqFromBits 0x36400000) s ∧
    exec .rffreqF915 s = exec (.rffreqFromBits 0x39300000) s) ∧
  (∀ (s t : State) (raw : Byte), exec (.packettypeFromBits raw) s = .next t →
    packetTypeResult t.rsp = (if raw.toNat ≤ 3 then .ok (.ofIndex (BitVec.ofNat 2 raw.toNat)) else .error raw)) ∧
  (∀ (s t : State) (a b : PaSel), exec (.paselCmp a b) s = .next t →
    paSelOrdering t.rsp = some (if a = b then .eq else if a = .lp then .lt else .gt)) ∧
  (∀ (b : Buf40) (i : Nat), byteAt b i = (transmission b)[i]?)

/-! Family PACONFIG. -/

/-- R64: PACONFIG.NEW answers the documented default buffer. -/
def Obligations.PaConfigNewIsTheDefault : Prop :=
  (∀ s : State, exec .paconfigNew s =
    .next { s with rsp := { bufOut := ⟨s.cfg.opcPaconfig, 0x01, 0x00, 0x00, 0x01⟩, res := 0, err := false, ill := false } }) ∧
  (∀ s : State, s.req.opsel = 0x20 → step s = exec .paconfigNew s)

/-- R65: SET_PA_DUTY_CYCLE replaces byte 1 by the low three bits of its operand, for every operand and buffer, with no
error; the operand is `arg[7:0]`. -/
def Obligations.SetPaDutyCycleMasksToThreeBits : Prop :=
  (∀ (s : State) (b : Buf40) (v : Byte), exec (.paconfigSetPaDutyCycle b v) s =
    .next { s with rsp := { bufOut := { b with b1 := BitVec.ofNat 8 (v.toNat % 8) }, res := 0, err := false, ill := false } }) ∧
  (∀ s : State, s.req.opsel = 0x21 →
    step s = exec (.paconfigSetPaDutyCycle s.req.bufIn (BitVec.ofNat 8 s.req.arg.toNat)) s)

/-- SET_HP_MAX replaces byte 2 by the low three bits of its operand (42_paconfig.md; the operand's width is a decision
of the spec). -/
def Obligations.SetHpMaxMasksToThreeBits : Prop :=
  (∀ (s : State) (b : Buf40) (v : Byte), exec (.paconfigSetHpMax b v) s =
    .next { s with rsp := { bufOut := { b with b2 := BitVec.ofNat 8 (v.toNat % 8) }, res := 0, err := false, ill := false } }) ∧
  (∀ s : State, s.req.opsel = 0x22 →
    step s = exec (.paconfigSetHpMax s.req.bufIn (BitVec.ofNat 8 s.req.arg.toNat)) s)

/-- SET_PA replaces the whole of byte 3 by the selection code, 0 for Hp and 1 for Lp (42_paconfig.md). -/
def Obligations.SetPaStoresTheSelectionCode : Prop :=
  (∀ (s : State) (b : Buf40),
    exec (.paconfigSetPa b .hp) s =
      .next { s with rsp := { bufOut := { b with b3 := 0x00 }, res := 0, err := false, ill := false } } ∧
    exec (.paconfigSetPa b .lp) s =
      .next { s with rsp := { bufOut := { b with b3 := 0x01 }, res := 0, err := false, ill := false } }) ∧
  (∀ s : State, s.req.opsel = 0x23 →
    step s = exec (.paconfigSetPa s.req.bufIn (if s.req.arg.toNat % 2 = 0 then .hp else .lp)) s)

/-- A chain of PaConfig setters leaves each field at the last value set and every other byte as it was; so setters of
different fields commute (42_paconfig.md, composition of the setters). -/
def Obligations.PaSetterChainKeepsTheLastOfEachField : Prop :=
  (∀ (s : State) (b : Buf40) (xs : List PaSetter),
    paChain s b xs = some {
      b with
      b1 := match (xs.filterMap PaSetter.asDutyCycle).getLast? with
        | some v => BitVec.ofNat 8 (v.toNat % 8)
        | none => b.b1
      b2 := match (xs.filterMap PaSetter.asHpMax).getLast? with
        | some v => BitVec.ofNat 8 (v.toNat % 8)
        | none => b.b2
      b3 := match (xs.filterMap PaSetter.asPa).getLast? with
        | some .hp => 0x00
        | some .lp => 0x01
        | none => b.b3 }) ∧
  (∀ (s : State) (b : Buf40) (v w : Byte) (p : PaSel) (ys : List PaSetter),
    ys.Perm [.dutyCycle v, .hpMax w, .pa p] →
    paChain s b ys = paChain s b [.dutyCycle v, .hpMax w, .pa p])

/-- R44: the PaConfig buffers reached from NEW have the layout `oooooooo 00000ddd 00000hhh 0000000p 00000001`, with
d = 1, h = 0, p = 0 for NEW itself; the setters write the bytes 31:24, 23:16 and 15:8 of the buffer. -/
def Obligations.PaBuffersFromNewHaveTheLayout : Prop :=
  ∀ s : State,
    (∀ b, PaReachable s b → ∃ (d h : BitVec 3) (p : BitVec 1),
      b.toVec = s.cfg.opcPaconfig ++ 0#5 ++ d ++ 0#5 ++ h ++ 0#7 ++ p ++ 1#8) ∧
    (∃ b, bufferOf s .paconfigNew = some b ∧ b.toVec = s.cfg.opcPaconfig ++ 0#5 ++ 1#3 ++ 0#5 ++ 0#3 ++ 0#7 ++ 0#1 ++ 1#8) ∧
    (∀ (b b' : Buf40) (v : Byte), bufferOf s (.paconfigSetPaDutyCycle b v) = some b' →
      b'.toVec.toNat / 2 ^ 24 % 2 ^ 8 = v.toNat % 8) ∧
    (∀ (b b' : Buf40) (v : Byte), bufferOf s (.paconfigSetHpMax b v) = some b' →
      b'.toVec.toNat / 2 ^ 16 % 2 ^ 8 = v.toNat % 8) ∧
    (∀ (b b' : Buf40) (p : PaSel), bufferOf s (.paconfigSetPa b p) = some b' →
      b'.toVec.toNat / 2 ^ 8 % 2 ^ 8 = p.toIndex.toNat)

/-- Exactly 128 buffers are reached from PACONFIG.NEW by setters (42_paconfig.md, law (d)). -/
def Obligations.PaReachableBuffersAre128 : Prop :=
  ∀ s : State, {b : Buf40 | PaReachable s b}.ncard = 128

/-! Family TCXOMODE. -/

/-- R71: TCXOMODE.NEW answers the default buffer, trim 0 and timeout 0; trim code 0 is the variant of index 0. -/
def Obligations.TcxoModeNewIsTheDefault : Prop :=
  (∀ s : State, exec .tcxomodeNew s =
    .next { s with rsp := { bufOut := ⟨s.cfg.opcTcxomode, 0x00, 0x00, 0x00, 0x00⟩, res := 0, err := false, ill := false } }) ∧
  (∀ s : State, s.req.opsel = 0x30 → step s = exec .tcxomodeNew s) ∧
  (∀ s : State, scalarOf s (.tcxotrimBits (.ofIndex 0)) = some 0)

/-- SET_TCXO_TRIM replaces the whole of byte 1 by the variant's code, its index (43_tcxomode.md). -/
def Obligations.SetTcxoTrimStoresTheCode : Prop :=
  (∀ (s : State) (b : Buf40) (i : BitVec 3), exec (.tcxomodeSetTcxoTrim b (.ofIndex i)) s =
    .next { s with rsp := { bufOut := { b with b1 := BitVec.ofNat 8 i.toNat }, res := 0, err := false, ill := false } }) ∧
  (∀ s : State, s.req.opsel = 0x31 →
    step s = exec (.tcxomodeSetTcxoTrim s.req.bufIn (.ofIndex (BitVec.ofNat 3 s.req.arg.toNat))) s)

/-- R73: SET_TIMEOUT writes the low 24 bits of the tick count big-endian into bytes 2 to 4 and discards the rest without
an error. -/
def Obligations.SetTimeoutKeepsTheLow24Bits : Prop :=
  (∀ (s : State) (b : Buf40) (ticks : Word), exec (.tcxomodeSetTimeout b ticks) s =
    .next { s with rsp := {
      bufOut := { b with
        b2 := BitVec.ofNat 8 (ticks.toNat / 65536 % 256)
        b3 := BitVec.ofNat 8 (ticks.toNat / 256 % 256)
        b4 := BitVec.ofNat 8 (ticks.toNat % 256) },
      res := 0, err := false, ill := false } }) ∧
  (∀ s : State, s.req.opsel = 0x32 → step s = exec (.tcxomodeSetTimeout s.req.bufIn s.req.arg) s)

/-- A chain of TcxoMode setters leaves each field at the last value set and every other byte as it was; the two setters
commute (43_tcxomode.md, composition of the setters). -/
def Obligations.TcxoSetterChainKeepsTheLastOfEachField : Prop :=
  (∀ (s : State) (b : Buf40) (xs : List TcxoSetter),
    ∃ b', tcxoChain s b xs = some b' ∧ b'.b0 = b.b0 ∧
      (match (xs.filterMap TcxoSetter.asTrim).getLast? with
        | some t => b'.b1.toNat = t.toIndex.toNat
        | none => b'.b1 = b.b1) ∧
      (match (xs.filterMap TcxoSetter.asTimeout).getLast? with
        | some n => (b'.b2.toNat * 256 + b'.b3.toNat) * 256 + b'.b4.toNat = n.toNat % 2 ^ 24
        | none => b'.b2 = b.b2 ∧ b'.b3 = b.b3 ∧ b'.b4 = b.b4)) ∧
  (∀ (s : State) (b : Buf40) (t : TcxoTrim) (n : Word),
    tcxoChain s b [.trim t, .timeout n] = tcxoChain s b [.timeout n, .trim t])

/-- R45: the TcxoMode buffers reached from NEW have the layout `oooooooo 00000rrr tttttttt tttttttt tttttttt`, with r = 0
and t = 0 for NEW itself; the ticks are the low 24 bits of the buffer and the trim code is its byte 31:24. -/
def Obligations.TcxoBuffersFromNewHaveTheLayout : Prop :=
  ∀ s : State,
    (∀ b, TcxoReachable s b → ∃ (r : BitVec 3) (t : BitVec 24), b.toVec = s.cfg.opcTcxomode ++ 0#5 ++ r ++ t) ∧
    (∃ b, bufferOf s .tcxomodeNew = some b ∧ b.toVec = s.cfg.opcTcxomode ++ 0#5 ++ 0#3 ++ 0#24) ∧
    (∀ (b b' : Buf40) (n : Word), bufferOf s (.tcxomodeSetTimeout b n) = some b' →
      b'.toVec.toNat % 2 ^ 24 = n.toNat % 2 ^ 24) ∧
    (∀ (b b' : Buf40) (t : TcxoTrim), bufferOf s (.tcxomodeSetTcxoTrim b t) = some b' →
      b'.toVec.toNat / 2 ^ 24 % 2 ^ 8 = t.toIndex.toNat)

/-- Exactly 8 * 2^24 buffers are reached from TCXOMODE.NEW by setters (43_tcxomode.md, law (d)). -/
def Obligations.TcxoReachableBuffersAre8Times2Pow24 : Prop :=
  ∀ s : State, {b : Buf40 | TcxoReachable s b}.ncard = 8 * 2 ^ 24

/-- R25: every multi-byte field is big-endian: the bytes of FROM_BITS and of SET_TIMEOUT from the most significant
down, sent in that order, and FREQ reads them back in that order. -/
def Obligations.BuffersAreBigEndian : Prop :=
  (∀ (s : State) (bits : Word), ∃ b, bufferOf s (.rffreqFromBits bits) = some b ∧
    b.b1.toNat = bits.toNat / 2 ^ 24 ∧ b.b2.toNat = bits.toNat / 2 ^ 16 % 2 ^ 8 ∧
    b.b3.toNat = bits.toNat / 2 ^ 8 % 2 ^ 8 ∧ b.b4.toNat = bits.toNat % 2 ^ 8 ∧
    transmission b = [b.b0, b.b1, b.b2, b.b3, b.b4]) ∧
  (∀ (s : State) (b : Buf40) (ticks : Word), ∃ b', bufferOf s (.tcxomodeSetTimeout b ticks) = some b' ∧
    b'.b2.toNat = ticks.toNat / 2 ^ 16 % 2 ^ 8 ∧ b'.b3.toNat = ticks.toNat / 2 ^ 8 % 2 ^ 8 ∧
    b'.b4.toNat = ticks.toNat % 2 ^ 8) ∧
  (∀ (s : State) (bits : Word) (b : Buf40), bufferOf s (.rffreqFromBits bits) = some b →
    scalarOf s (.rffreqFreq b) = some (BitVec.ofNat 32 (32000000 * bits.toNat / 2 ^ 25)))

/-! The enumerations. -/

/-- PACKETTYPE.FROM_BITS: a code up to 3 is its variant index with `err` = 0, any other byte comes back unchanged with
`err` = 1 (44_enumerations.md). -/
def Obligations.PacketTypeFromBitsAcceptsOrReturnsTheByte : Prop :=
  (∀ (s : State) (raw : Byte), exec (.packettypeFromBits raw) s =
    .next { s with rsp := {
      bufOut := ⟨0, 0, 0, 0, 0⟩, res := BitVec.ofNat 32 raw.toNat, err := decide (4 ≤ raw.toNat), ill := false } }) ∧
  (∀ s : State, s.req.opsel = 0x40 → step s = exec (.packettypeFromBits (BitVec.ofNat 8 s.req.arg.toNat)) s)

/-- R78, R79, R83: the code of a PacketType, a PaSel and a TcxoTrim variant is its index; PACKETTYPE.BITS is the inverse
of FROM_BITS, and TCXOTRIM.BITS is the mapping SET_TCXO_TRIM applies. -/
def Obligations.CodesOfTheFixedEnumerationsAreTheirIndices : Prop :=
  (∀ (s : State) (i : BitVec 2), exec (.packettypeBits (.ofIndex i)) s =
    .next { s with rsp := { bufOut := ⟨0, 0, 0, 0, 0⟩, res := BitVec.ofNat 32 i.toNat, err := false, ill := false } }) ∧
  (∀ (s : State) (i : BitVec 1), exec (.paselBits (.ofIndex i)) s =
    .next { s with rsp := { bufOut := ⟨0, 0, 0, 0, 0⟩, res := BitVec.ofNat 32 i.toNat, err := false, ill := false } }) ∧
  (∀ (s : State) (i : BitVec 3), exec (.tcxotrimBits (.ofIndex i)) s =
    .next { s with rsp := { bufOut := ⟨0, 0, 0, 0, 0⟩, res := BitVec.ofNat 32 i.toNat, err := false, ill := false } }) ∧
  (∀ s : State,
    (s.req.opsel = 0x41 → step s = exec (.packettypeBits (.ofIndex (BitVec.ofNat 2 s.req.arg.toNat))) s) ∧
    (s.req.opsel = 0x42 → step s = exec (.paselBits (.ofIndex (BitVec.ofNat 1 s.req.arg.toNat))) s) ∧
    (s.req.opsel = 0x46 → step s = exec (.tcxotrimBits (.ofIndex (BitVec.ofNat 3 s.req.arg.toNat))) s)) ∧
  (∀ (s t : State) (p : PacketType) (c : Word), scalarOf s (.packettypeBits p) = some c →
    exec (.packettypeFromBits (BitVec.ofNat 8 c.toNat)) s = .next t →
    t.rsp.err = false ∧ t.rsp.res.toNat = p.toIndex.toNat) ∧
  (∀ (s : State) (b b' : Buf40) (t : TcxoTrim) (c : Word), scalarOf s (.tcxotrimBits t) = some c →
    bufferOf s (.tcxomodeSetTcxoTrim b t) = some b' → b'.b1.toNat = c.toNat)

/-- PASEL.CMP: the table of 44_enumerations.md, with 3 for Less, 0 for Equal, 1 for Greater and Lp below Hp. -/
def Obligations.PaSelCmpOrdersLpBelowHp : Prop :=
  (∀ (s : State) (a b : PaSel), exec (.paselCmp a b) s =
    .next { s with rsp := {
      bufOut := ⟨0, 0, 0, 0, 0⟩,
      res := (match a, b with | .hp, .hp => 0 | .hp, .lp => 1 | .lp, .hp => 3 | .lp, .lp => 0),
      err := false, ill := false } }) ∧
  (∀ s : State, s.req.opsel = 0x43 →
    step s = exec (.paselCmp (.ofIndex (BitVec.ofNat 1 s.req.arg.toNat))
      (.ofIndex (BitVec.ofNat 1 (s.req.arg.toNat / 256)))) s)

/-- The order PASEL.CMP reports is total, antisymmetric and transitive, and runs against the codes PASEL.BITS reports:
`a` is Greater exactly when its code is less (44_enumerations.md, 70_reset_and_hazards.md). -/
def Obligations.PaSelOrderIsTheReverseOfTheCodes : Prop :=
  ∀ (s : State) (a b d : PaSel), ∃ xab xba xbd xad ca cb,
    scalarOf s (.paselCmp a b) = some xab ∧ scalarOf s (.paselCmp b a) = some xba ∧
    scalarOf s (.paselCmp b d) = some xbd ∧ scalarOf s (.paselCmp a d) = some xad ∧
    scalarOf s (.paselBits a) = some ca ∧ scalarOf s (.paselBits b) = some cb ∧
    (xab = 3 ∨ xab = 0 ∨ xab = 1) ∧ (xab = 3 ↔ xba = 1) ∧ (xab = 0 ↔ a = b) ∧
    (xab ≠ 1 → xbd ≠ 1 → xad ≠ 1) ∧ (xab = 1 ↔ ca.toNat < cb.toNat)

/-- REGMODE.BITS and OCP.BITS answer the code of the variant, a parameter of the hardware (44_enumerations.md; that there
are two RegMode variants is the spec's general knowledge, log entry 13). -/
def Obligations.RegModeAndOcpCodesAreTheParameters : Prop :=
  (∀ s : State,
    exec (.regmodeBits .rm0) s = .next { s with rsp := { bufOut := ⟨0, 0, 0, 0, 0⟩, res := BitVec.ofNat 32 s.cfg.regmodeCode0.toNat, err := false, ill := false } } ∧
    exec (.regmodeBits .rm1) s = .next { s with rsp := { bufOut := ⟨0, 0, 0, 0, 0⟩, res := BitVec.ofNat 32 s.cfg.regmodeCode1.toNat, err := false, ill := false } } ∧
    exec (.ocpBits .ocp0) s = .next { s with rsp := { bufOut := ⟨0, 0, 0, 0, 0⟩, res := BitVec.ofNat 32 s.cfg.ocpCode0.toNat, err := false, ill := false } } ∧
    exec (.ocpBits .ocp1) s = .next { s with rsp := { bufOut := ⟨0, 0, 0, 0, 0⟩, res := BitVec.ofNat 32 s.cfg.ocpCode1.toNat, err := false, ill := false } }) ∧
  (∀ s : State,
    (s.req.opsel = 0x44 → step s = exec (.regmodeBits (.ofIndex (BitVec.ofNat 1 s.req.arg.toNat))) s) ∧
    (s.req.opsel = 0x45 → step s = exec (.ocpBits (.ofIndex (BitVec.ofNat 1 s.req.arg.toNat))) s))

/-- TCXOTRIM.AS_MILLIVOLTS answers 1600, 1700 and 3300 at indices 0, 1 and 7 and the parameters between
(44_enumerations.md, 30_encoding.md section 3; which codes carry 1600 and 3300 is the spec's general knowledge, log
entry 13); under the spec's premises every answer lies from 1600 to 3300. -/
def Obligations.MillivoltTableIsAnswered : Prop :=
  (∀ (s : State) (i : BitVec 3), exec (.tcxotrimAsMillivolts (.ofIndex i)) s =
    .next { s with rsp := {
      bufOut := ⟨0, 0, 0, 0, 0⟩,
      res := BitVec.ofNat 32 (match i.toNat with
        | 0 => 1600 | 1 => 1700 | 2 => s.cfg.tcxoMv2.toNat | 3 => s.cfg.tcxoMv3.toNat | 4 => s.cfg.tcxoMv4.toNat
        | 5 => s.cfg.tcxoMv5.toNat | 6 => s.cfg.tcxoMv6.toNat | _ => 3300),
      err := false, ill := false } }) ∧
  (∀ (s : State) (i : TcxoTrim), s.cfg.MillivoltsInRange →
    ∃ mv, scalarOf s (.tcxotrimAsMillivolts i) = some mv ∧ 1600 ≤ mv.toNat ∧ mv.toNat ≤ 3300 ∧
      (mv.toNat = 1600 ↔ i = .volts1pt6) ∧ (mv.toNat = 3300 ↔ i = .volts3pt3)) ∧
  (∀ s : State, s.req.opsel = 0x47 →
    step s = exec (.tcxotrimAsMillivolts (.ofIndex (BitVec.ofNat 3 s.req.arg.toNat))) s)

/-- The one code-to-value mapping inverts the value-to-code mapping: FROM_BITS of BITS accepts and gives the index back,
and BITS of an accepted code's variant is the code (44_enumerations.md). -/
def Obligations.PacketTypeRoundTrip : Prop :=
  (∀ (s : State) (p : PacketType), ∃ code,
    scalarOf s (.packettypeBits p) = some code ∧
    ∃ t, exec (.packettypeFromBits (BitVec.ofNat 8 code.toNat)) s = .next t ∧
      t.rsp.err = false ∧ t.rsp.res.toNat = p.toIndex.toNat) ∧
  (∀ (s t : State) (raw : Byte), exec (.packettypeFromBits raw) s = .next t → t.rsp.err = false →
    scalarOf s (.packettypeBits (.ofIndex (BitVec.ofNat 2 t.rsp.res.toNat))) = some (BitVec.ofNat 32 raw.toNat))

/-- Every value-to-code mapping is injective, for RegMode and Ocp under the spec's premise, and the three operation codes
are told apart by byte 0 of the buffers they head (44_enumerations.md, 30_encoding.md section 2). -/
def Obligations.CodeMappingsAreInjective : Prop :=
  (∀ (s : State) (p q : PacketType), scalarOf s (.packettypeBits p) = scalarOf s (.packettypeBits q) → p = q) ∧
  (∀ (s : State) (p q : PaSel), scalarOf s (.paselBits p) = scalarOf s (.paselBits q) → p = q) ∧
  (∀ (s : State) (p q : TcxoTrim), scalarOf s (.tcxotrimBits p) = scalarOf s (.tcxotrimBits q) → p = q) ∧
  (∀ (s : State) (p q : RegMode), s.cfg.CodesDistinct → scalarOf s (.regmodeBits p) = scalarOf s (.regmodeBits q) → p = q) ∧
  (∀ (s : State) (p q : Ocp), s.cfg.CodesDistinct → scalarOf s (.ocpBits p) = scalarOf s (.ocpBits q) → p = q) ∧
  (∀ (s : State) (b pa tc : Buf40) (bits : Word) (xs : List PaSetter) (ys : List TcxoSetter), s.cfg.OpcodesDistinct →
    bufferOf s (.rffreqFromBits bits) = some b →
    (bufferOf s .paconfigNew).bind (fun b₀ => paChain s b₀ xs) = some pa →
    (bufferOf s .tcxomodeNew).bind (fun b₀ => tcxoChain s b₀ ys) = some tc →
    b.b0 ≠ pa.b0 ∧ b.b0 ≠ tc.b0 ∧ pa.b0 ≠ tc.b0)

/-! The layout rows. -/

/-- The three buffer-layout rows of the table are no operations (30_encoding.md, opening paragraph; the buffers' reader,
the radio, is out of scope by 00_scope.md section 3), and no request decodes to one. That executing one is refused, by
the name `notAnOperation`, is the model's rendering of that sentence (DEDUCED, log entry 10), not a rule of the spec. -/
def Obligations.BufferLayoutsAreNotOperations : Prop :=
  (∀ (s : State) (op res : Byte) (bits : Word) (d h : BitVec 3) (p : PaSel) (r : TcxoTrim) (t : BitVec 24),
    exec (.bufferRffreq op bits) s = .refused (.notAnOperation "BUFFER.RFFREQ") ∧
    exec (.bufferPaconfig op d h p res) s = .refused (.notAnOperation "BUFFER.PACONFIG") ∧
    exec (.bufferTcxomode op r t) s = .refused (.notAnOperation "BUFFER.TCXOMODE")) ∧
  (∀ (q : Request) (i : Instr), decode q = .ok i → ∀ s : State, ∃ t, exec i s = .next t)
end

