-- ==== Sys2Proof/Laws/Encoding.lean ====
section
/-! SUPPORT. Packing and unpacking are inverse: buffers on the 40-bit port (20_memory.md R26), request words
(30_encoding.md R37), variant indices (10_state.md R17), register values in a buffer (20_memory.md R25). -/

namespace Sys2Proof

@[simp] theorem Buf40.ofVec_toVec (b : Buf40) : Buf40.ofVec b.toVec = b := by
  cases b
  simp only [Buf40.ofVec, Buf40.toVec, Buf40.mk.injEq]
  refine ⟨?_, ?_, ?_, ?_, ?_⟩ <;>
    (apply BitVec.eq_of_getLsbD_eq; intro i hi; simp; grind)

@[simp] theorem Buf40.toVec_ofVec (v : BitVec 40) : (Buf40.ofVec v).toVec = v := by
  apply BitVec.eq_of_getLsbD_eq
  intro i hi
  simp [Buf40.ofVec, Buf40.toVec]
  grind

@[simp] theorem Request.ofWord_toWord (r : Request) : Request.ofWord r.toWord = r := by
  obtain ⟨o, b, a⟩ := r
  have hb : BitVec.extractLsb' 32 40 (o ++ b.toVec ++ a) = b.toVec := by
    apply BitVec.eq_of_getLsbD_eq; intro i hi; simp; grind
  have ho : BitVec.extractLsb' 72 8 (o ++ b.toVec ++ a) = o := by
    apply BitVec.eq_of_getLsbD_eq; intro i hi; simp; grind
  have ha : BitVec.extractLsb' 0 32 (o ++ b.toVec ++ a) = a := by
    apply BitVec.eq_of_getLsbD_eq; intro i hi; simp; grind
  simp only [Request.ofWord, Request.toWord, hb, ho, ha, Buf40.ofVec_toVec]

@[simp] theorem PacketType.ofIndex_toIndex (p : PacketType) : PacketType.ofIndex p.toIndex = p := by cases p <;> rfl
@[simp] theorem PaSel.ofIndex_toIndex (p : PaSel) : PaSel.ofIndex p.toIndex = p := by cases p <;> rfl
@[simp] theorem RegMode.ofIndex_toIndex (p : RegMode) : RegMode.ofIndex p.toIndex = p := by cases p <;> rfl
@[simp] theorem Ocp.ofIndex_toIndex (p : Ocp) : Ocp.ofIndex p.toIndex = p := by cases p <;> rfl
@[simp] theorem TcxoTrim.ofIndex_toIndex (p : TcxoTrim) : TcxoTrim.ofIndex p.toIndex = p := by cases p <;> rfl
@[simp] theorem PacketType.toIndex_ofIndex (i : BitVec 2) : (PacketType.ofIndex i).toIndex = i := by decide +revert
@[simp] theorem PaSel.toIndex_ofIndex (i : BitVec 1) : (PaSel.ofIndex i).toIndex = i := by decide +revert
@[simp] theorem RegMode.toIndex_ofIndex (i : BitVec 1) : (RegMode.ofIndex i).toIndex = i := by decide +revert
@[simp] theorem Ocp.toIndex_ofIndex (i : BitVec 1) : (Ocp.ofIndex i).toIndex = i := by decide +revert
@[simp] theorem TcxoTrim.toIndex_ofIndex (i : BitVec 3) : (TcxoTrim.ofIndex i).toIndex = i := by decide +revert

namespace Machine

/-- Reading the register value back out of an RfFreq buffer (20_memory.md R25). -/
@[simp] theorem rfBitsOf_rfFreqBuf (c : Config) (bits : Word) : rfBitsOf (rfFreqBuf c bits) = bits := by
  apply BitVec.eq_of_getLsbD_eq
  intro i hi
  simp [rfBitsOf, rfFreqBuf]
  grind

@[simp] theorem rfFreqBuf_b0 (c : Config) (bits : Word) : (rfFreqBuf c bits).b0 = c.opcRffreq := rfl

@[simp] theorem withTicks_b0 (b : Buf40) (ticks : Word) : (withTicks b ticks).b0 = b.b0 := rfl
@[simp] theorem withTicks_b1 (b : Buf40) (ticks : Word) : (withTicks b ticks).b1 = b.b1 := rfl

/-- The masked byte is the operand modulo 8 (42_paconfig.md R65). -/
theorem low3_toNat (v : Byte) : (low3 v).toNat = v.toNat % 8 := by
  simp only [low3, BitVec.toNat_and]
  exact Nat.and_two_pow_sub_one_eq_mod v.toNat 3

end Machine

end Sys2Proof
end

