-- ==== Sys2Proof/Laws/State.lean ====
section
/-! SUPPORT. One lemma per field per update of State, so that no later proof unfolds a record update. -/

namespace Sys2Proof.Machine

@[simp] theorem State.answer_rsp (s : State) (r : Response) : (s.answer r).rsp = r := rfl
@[simp] theorem State.answer_req (s : State) (r : Response) : (s.answer r).req = s.req := rfl
@[simp] theorem State.answer_cfg (s : State) (r : Response) : (s.answer r).cfg = s.cfg := rfl
@[simp] theorem State.drive_req (s : State) (q : Request) : (s.drive q).req = q := rfl
@[simp] theorem State.drive_rsp (s : State) (q : Request) : (s.drive q).rsp = s.rsp := rfl
@[simp] theorem State.drive_cfg (s : State) (q : Request) : (s.drive q).cfg = s.cfg := rfl
@[simp] theorem State.answer_answer (s : State) (r r' : Response) : (s.answer r).answer r' = s.answer r' := rfl
@[simp] theorem State.drive_drive (s : State) (q q' : Request) : (s.drive q).drive q' = s.drive q' := rfl

@[simp] theorem bufResponse_bufOut (b : Buf40) : (bufResponse b).bufOut = b := rfl
@[simp] theorem bufResponse_res (b : Buf40) : (bufResponse b).res = 0 := rfl
@[simp] theorem bufResponse_err (b : Buf40) : (bufResponse b).err = false := rfl
@[simp] theorem bufResponse_ill (b : Buf40) : (bufResponse b).ill = false := rfl
@[simp] theorem resResponse_bufOut {n : Nat} (v : BitVec n) : (resResponse v).bufOut = .zero := rfl
@[simp] theorem resResponse_res {n : Nat} (v : BitVec n) : (resResponse v).res = v.setWidth 32 := rfl
@[simp] theorem resResponse_err {n : Nat} (v : BitVec n) : (resResponse v).err = false := rfl
@[simp] theorem resResponse_ill {n : Nat} (v : BitVec n) : (resResponse v).ill = false := rfl
@[simp] theorem rejectedResponse_bufOut (raw : Byte) : (rejectedResponse raw).bufOut = .zero := rfl
@[simp] theorem rejectedResponse_res (raw : Byte) : (rejectedResponse raw).res = raw.setWidth 32 := rfl
@[simp] theorem rejectedResponse_err (raw : Byte) : (rejectedResponse raw).err = true := rfl
@[simp] theorem rejectedResponse_ill (raw : Byte) : (rejectedResponse raw).ill = false := rfl
@[simp] theorem reservedResponse_bufOut : reservedResponse.bufOut = .zero := rfl
@[simp] theorem reservedResponse_res : reservedResponse.res = 0 := rfl
@[simp] theorem reservedResponse_err : reservedResponse.err = false := rfl
@[simp] theorem reservedResponse_ill : reservedResponse.ill = true := rfl

end Sys2Proof.Machine
end

