-- ==== Sys2Proof/Laws/Ops.lean ====
section
/-! SUPPORT. Once for each shared operation, everything it can do. -/

namespace Sys2Proof.Machine

/-- `answer` always answers, and only the response port changes. -/
theorem answer_next_iff {s t : State} {r : Response} : answer s r = .next t ↔ t = s.answer r := by
  simp [answer, eq_comm]

/-- `answerBuf` always answers, with the buffer and every other response field 0. -/
theorem answerBuf_next_iff {s t : State} {b : Buf40} : answerBuf s b = .next t ↔ t = s.answer (bufResponse b) :=
  answer_next_iff

/-- `answerRes` always answers, with the scalar and every other response field 0. -/
theorem answerRes_next_iff {s t : State} {n : Nat} {v : BitVec n} :
    answerRes s v = .next t ↔ t = s.answer (resResponse v) :=
  answer_next_iff

/-- The decode of a PacketType code says which bytes are variants. -/
theorem packetTypeOfCode_some_iff {raw : Byte} {p : PacketType} :
    packetTypeOfCode raw = some p ↔ raw = packetTypeCode p := by
  unfold packetTypeOfCode
  cases p <;> simp only [packetTypeCode] <;> split_ifs <;> simp_all

/-- A byte is no PacketType code exactly from 4 up. -/
theorem packetTypeOfCode_none_iff {raw : Byte} : packetTypeOfCode raw = none ↔ 4 ≤ raw.toNat := by
  unfold packetTypeOfCode
  split_ifs with h0 h1 h2 h3
  · simp [h0]
  · simp [h1]
  · simp [h2]
  · simp [h3]
  · simp only [true_iff]
    bv_omega

/-- A transaction is the execution of the decoded operation, or the reserved answer. -/
theorem transact_cases (s : State) :
    (∃ i, decode s.req = .ok i ∧ transact s = exec i s) ∨
    (∃ e, decode s.req = .error e ∧ transact s = .next (s.answer reservedResponse)) := by
  unfold transact
  cases h : decode s.req with
  | ok i => exact .inl ⟨i, rfl, rfl⟩
  | error e => exact .inr ⟨e, rfl, rfl⟩

/-- `step` is one transaction. -/
theorem step_eq (s : State) : step s = transact s := rfl

/-- Presenting a word changes the request port only. -/
theorem withFetchWord_eq (s : State) (nbits w : Nat) :
    s.withFetchWord nbits w = s.drive (Request.ofWord (BitVec.ofNat 80 (w % 2 ^ nbits))) := rfl

end Sys2Proof.Machine
end

