-- ==== Sys2Proof/Laws/PerInstr.lean ====
section
/-! SUPPORT. Statements for all instructions, one lemma per constructor: the family EncodedSelect, what the encoder writes
as an instruction's select code (30_encoding.md R38) and in which format (30_encoding.md, opening). -/

namespace Sys2Proof.Laws.EncodedSelect

/-- The select code of an operation (30_encoding.md R38); a buffer layout has none. -/
def select : Instr → Option Byte
  | .rffreqFromBits _ => some 0x10
  | .rffreqFromFrequency _ => some 0x11
  | .rffreqFreq _ => some 0x12
  | .rffreqAsSlice _ => some 0x13
  | .rffreqF433 => some 0x14
  | .rffreqF868 => some 0x15
  | .rffreqF915 => some 0x16
  | .paconfigNew => some 0x20
  | .paconfigSetPaDutyCycle _ _ => some 0x21
  | .paconfigSetHpMax _ _ => some 0x22
  | .paconfigSetPa _ _ => some 0x23
  | .paconfigAsSlice _ => some 0x24
  | .tcxomodeNew => some 0x30
  | .tcxomodeSetTcxoTrim _ _ => some 0x31
  | .tcxomodeSetTimeout _ _ => some 0x32
  | .tcxomodeAsSlice _ => some 0x33
  | .packettypeFromBits _ => some 0x40
  | .packettypeBits _ => some 0x41
  | .paselBits _ => some 0x42
  | .paselCmp _ _ => some 0x43
  | .regmodeBits _ => some 0x44
  | .ocpBits _ => some 0x45
  | .tcxotrimBits _ => some 0x46
  | .tcxotrimAsMillivolts _ => some 0x47
  | .bufferRffreq _ _ => none
  | .bufferPaconfig _ _ _ _ _ => none
  | .bufferTcxomode _ _ _ => none

/-- An operation is encoded as a request word with its select code, a layout as a 40-bit buffer word. -/
def Statement (i : Instr) : Prop :=
  match select i with
  | some o => ∃ r : Request, encode i = .req r.toWord ∧ r.opsel = o
  | none => ∃ v : BitVec 40, encode i = .cmd5 v

theorem rffreqFromBits (bits : Word) : Statement (.rffreqFromBits bits) := ⟨_, rfl, rfl⟩
theorem rffreqFromFrequency (freqHz : Word) : Statement (.rffreqFromFrequency freqHz) := ⟨_, rfl, rfl⟩
theorem rffreqFreq (buf : Buf40) : Statement (.rffreqFreq buf) := ⟨_, rfl, rfl⟩
theorem rffreqAsSlice (buf : Buf40) : Statement (.rffreqAsSlice buf) := ⟨_, rfl, rfl⟩
theorem rffreqF433 : Statement .rffreqF433 := ⟨_, rfl, rfl⟩
theorem rffreqF868 : Statement .rffreqF868 := ⟨_, rfl, rfl⟩
theorem rffreqF915 : Statement .rffreqF915 := ⟨_, rfl, rfl⟩
theorem paconfigNew : Statement .paconfigNew := ⟨_, rfl, rfl⟩
theorem paconfigSetPaDutyCycle (buf : Buf40) (v : Byte) : Statement (.paconfigSetPaDutyCycle buf v) := ⟨_, rfl, rfl⟩
theorem paconfigSetHpMax (buf : Buf40) (v : Byte) : Statement (.paconfigSetHpMax buf v) := ⟨_, rfl, rfl⟩
theorem paconfigSetPa (buf : Buf40) (pa : PaSel) : Statement (.paconfigSetPa buf pa) := ⟨_, rfl, rfl⟩
theorem paconfigAsSlice (buf : Buf40) : Statement (.paconfigAsSlice buf) := ⟨_, rfl, rfl⟩
theorem tcxomodeNew : Statement .tcxomodeNew := ⟨_, rfl, rfl⟩
theorem tcxomodeSetTcxoTrim (buf : Buf40) (trim : TcxoTrim) : Statement (.tcxomodeSetTcxoTrim buf trim) := ⟨_, rfl, rfl⟩
theorem tcxomodeSetTimeout (buf : Buf40) (ticks : Word) : Statement (.tcxomodeSetTimeout buf ticks) := ⟨_, rfl, rfl⟩
theorem tcxomodeAsSlice (buf : Buf40) : Statement (.tcxomodeAsSlice buf) := ⟨_, rfl, rfl⟩
theorem packettypeFromBits (raw : Byte) : Statement (.packettypeFromBits raw) := ⟨_, rfl, rfl⟩
theorem packettypeBits (idx : PacketType) : Statement (.packettypeBits idx) := ⟨_, rfl, rfl⟩
theorem paselBits (pa : PaSel) : Statement (.paselBits pa) := ⟨_, rfl, rfl⟩
theorem paselCmp (a b : PaSel) : Statement (.paselCmp a b) := ⟨_, rfl, rfl⟩
theorem regmodeBits (idx : RegMode) : Statement (.regmodeBits idx) := ⟨_, rfl, rfl⟩
theorem ocpBits (idx : Ocp) : Statement (.ocpBits idx) := ⟨_, rfl, rfl⟩
theorem tcxotrimBits (idx : TcxoTrim) : Statement (.tcxotrimBits idx) := ⟨_, rfl, rfl⟩
theorem tcxotrimAsMillivolts (idx : TcxoTrim) : Statement (.tcxotrimAsMillivolts idx) := ⟨_, rfl, rfl⟩
theorem bufferRffreq (opcode : Byte) (bits : Word) : Statement (.bufferRffreq opcode bits) := ⟨_, rfl⟩
theorem bufferPaconfig (opcode : Byte) (dutyCycle hpMax : BitVec 3) (pa : PaSel) (reserved : Byte) : Statement (.bufferPaconfig opcode dutyCycle hpMax pa reserved) := ⟨_, rfl⟩
theorem bufferTcxomode (opcode : Byte) (trim : TcxoTrim) (ticks : BitVec 24) : Statement (.bufferTcxomode opcode trim ticks) := ⟨_, rfl⟩

end Sys2Proof.Laws.EncodedSelect
end

