-- ==== Sys2Proof/Tests/Slice0.lean ====
section
/-! SUPPORT. The model's own tests: what WellFormed refuses, every constructor's word decoded, one or two vectors of
95_test_vectors.md for each operation (byte 0 with the default parameters), and a witness for every statement's
hypotheses. -/

namespace Sys2Proof.Tests

open Sys2Proof.Machine

/-! WellFormed refuses an ill-formed term of each check. -/

theorem test_default_config_well_formed : defaultConfig.WellFormed := by decide
theorem test_opcode_clash_rffreq_paconfig : ¬({ defaultConfig with opcRffreq := 0x95 } : Config).WellFormed := by decide
theorem test_opcode_clash_rffreq_tcxomode : ¬({ defaultConfig with opcRffreq := 0x97 } : Config).WellFormed := by decide
theorem test_opcode_clash_paconfig_tcxomode : ¬({ defaultConfig with opcPaconfig := 0x97 } : Config).WellFormed := by decide
theorem test_regmode_codes_equal : ¬({ defaultConfig with regmodeCode0 := 0x01 } : Config).WellFormed := by decide
theorem test_ocp_codes_equal : ¬({ defaultConfig with ocpCode1 := 0x18 } : Config).WellFormed := by decide
theorem test_millivolts_2_too_low : ¬({ defaultConfig with tcxoMv2 := 1600 } : Config).WellFormed := by decide
theorem test_millivolts_2_too_high : ¬({ defaultConfig with tcxoMv2 := 3300 } : Config).WellFormed := by decide
theorem test_millivolts_3_too_low : ¬({ defaultConfig with tcxoMv3 := 1600 } : Config).WellFormed := by decide
theorem test_millivolts_3_too_high : ¬({ defaultConfig with tcxoMv3 := 3300 } : Config).WellFormed := by decide
theorem test_millivolts_4_too_low : ¬({ defaultConfig with tcxoMv4 := 1600 } : Config).WellFormed := by decide
theorem test_millivolts_4_too_high : ¬({ defaultConfig with tcxoMv4 := 3300 } : Config).WellFormed := by decide
theorem test_millivolts_5_too_low : ¬({ defaultConfig with tcxoMv5 := 1600 } : Config).WellFormed := by decide
theorem test_millivolts_5_too_high : ¬({ defaultConfig with tcxoMv5 := 3300 } : Config).WellFormed := by decide
theorem test_millivolts_6_too_low : ¬({ defaultConfig with tcxoMv6 := 1600 } : Config).WellFormed := by decide
theorem test_millivolts_6_too_high : ¬({ defaultConfig with tcxoMv6 := 3300 } : Config).WellFormed := by decide
theorem test_layout_rffreq_wrong_opcode : (Instr.bufferRffreq 0x95 0).wellFormed defaultConfig = false := by decide
theorem test_layout_paconfig_wrong_opcode : (Instr.bufferPaconfig 0x86 1 0 .hp 0x01).wellFormed defaultConfig = false := by decide
theorem test_layout_paconfig_wrong_reserved : (Instr.bufferPaconfig 0x95 1 0 .hp 0x00).wellFormed defaultConfig = false := by decide
theorem test_layout_tcxomode_wrong_opcode : (Instr.bufferTcxomode 0x86 .volts1pt6 0).wellFormed defaultConfig = false := by decide

/-! Decoding: one word per constructor. A request word is written `opsel`, five buffer bytes, four `arg` bytes
(30_encoding.md R37); those of 95_test_vectors.md part 3 are marked with their program line. Ignored bits are ones in
some, to show that they are ignored. -/

theorem test_decode_rffreqFromBits : decodeTableWord 80 0x10FFFFFFFFFF39300001 = some (.rffreqFromBits 0x39300001) := by decide
/-- 95_test_vectors.md P3 t0. -/
theorem test_decode_rffreqFromFrequency : decodeTableWord 80 0x1100000000003689CAC0 = some (.rffreqFromFrequency 915000000) := by decide
/-- 95_test_vectors.md P6 t1. -/
theorem test_decode_rffreqFreq : decodeTableWord 80 0x12861B20000100000000 = some (.rffreqFreq ⟨0x86, 0x1B, 0x20, 0x00, 0x01⟩) := by decide
theorem test_decode_rffreqAsSlice : decodeTableWord 80 0x138639300000FFFFFFFF = some (.rffreqAsSlice ⟨0x86, 0x39, 0x30, 0x00, 0x00⟩) := by decide
theorem test_decode_rffreqF433 : decodeTableWord 80 0x14FFFFFFFFFFFFFFFFFF = some .rffreqF433 := by decide
theorem test_decode_rffreqF868 : decodeTableWord 80 0x15000000000000000000 = some .rffreqF868 := by decide
/-- 95_test_vectors.md P3 t1. -/
theorem test_decode_rffreqF915 : decodeTableWord 80 0x16000000000000000000 = some .rffreqF915 := by decide
/-- 95_test_vectors.md P1 t0. -/
theorem test_decode_paconfigNew : decodeTableWord 80 0x20000000000000000000 = some .paconfigNew := by decide
/-- 95_test_vectors.md P4 t4. -/
theorem test_decode_paconfigSetPaDutyCycle : decodeTableWord 80 0x2195070301010000000C = some (.paconfigSetPaDutyCycle ⟨0x95, 0x07, 0x03, 0x01, 0x01⟩ 0x0C) := by decide
theorem test_decode_paconfigSetHpMax : decodeTableWord 80 0x22863930000000FFFFFF = some (.paconfigSetHpMax ⟨0x86, 0x39, 0x30, 0x00, 0x00⟩ 0xFF) := by decide
/-- 95_test_vectors.md P4 t3. -/
theorem test_decode_paconfigSetPa : decodeTableWord 80 0x23950703000100000001 = some (.paconfigSetPa ⟨0x95, 0x07, 0x03, 0x00, 0x01⟩ .lp) := by decide
/-- 95_test_vectors.md P1 t4. -/
theorem test_decode_paconfigAsSlice : decodeTableWord 80 0x24950203000100000000 = some (.paconfigAsSlice ⟨0x95, 0x02, 0x03, 0x00, 0x01⟩) := by decide
/-- 95_test_vectors.md P2 t0. -/
theorem test_decode_tcxomodeNew : decodeTableWord 80 0x30000000000000000000 = some .tcxomodeNew := by decide
/-- 95_test_vectors.md P4 t7. -/
theorem test_decode_tcxomodeSetTcxoTrim : decodeTableWord 80 0x31970012345600000007 = some (.tcxomodeSetTcxoTrim ⟨0x97, 0x00, 0x12, 0x34, 0x56⟩ .volts3pt3) := by decide
/-- 95_test_vectors.md P4 t6. -/
theorem test_decode_tcxomodeSetTimeout : decodeTableWord 80 0x329700000000FF123456 = some (.tcxomodeSetTimeout ⟨0x97, 0x00, 0x00, 0x00, 0x00⟩ 0xFF123456) := by decide
/-- 95_test_vectors.md P2 t3. -/
theorem test_decode_tcxomodeAsSlice : decodeTableWord 80 0x33970112345600000000 = some (.tcxomodeAsSlice ⟨0x97, 0x01, 0x12, 0x34, 0x56⟩) := by decide
theorem test_decode_packettypeFromBits : decodeTableWord 80 0x40000000000000000107 = some (.packettypeFromBits 0x07) := by decide
theorem test_decode_packettypeBits : decodeTableWord 80 0x41000000000000000006 = some (.packettypeBits .pt2) := by decide
theorem test_decode_paselBits : decodeTableWord 80 0x42000000000000000001 = some (.paselBits .lp) := by decide
/-- 95_test_vectors.md P5 t4. -/
theorem test_decode_paselCmp : decodeTableWord 80 0x43000000000000000100 = some (.paselCmp .hp .lp) := by decide
theorem test_decode_regmodeBits : decodeTableWord 80 0x44000000000000000001 = some (.regmodeBits .rm1) := by decide
theorem test_decode_ocpBits : decodeTableWord 80 0x45000000000000000001 = some (.ocpBits .ocp1) := by decide
theorem test_decode_tcxotrimBits : decodeTableWord 80 0x46000000000000000005 = some (.tcxotrimBits .volts2pt7) := by decide
theorem test_decode_tcxotrimAsMillivolts : decodeTableWord 80 0x4700000000000000000E = some (.tcxotrimAsMillivolts .volts3pt0) := by decide
theorem test_decode_bufferRffreq : decodeTableWord 40 0x8639300000 = some (.bufferRffreq 0x86 0x39300000) := by decide
theorem test_decode_bufferPaconfig : decodeTableWord 40 0x9502030101 = some (.bufferPaconfig 0x95 2 3 .lp 0x01) := by decide
theorem test_decode_bufferTcxomode : decodeTableWord 40 0x9701123456 = some (.bufferTcxomode 0x97 .volts1pt7 0x123456) := by decide
theorem test_decode_reserved_select : decodeTableWord 80 0x99000000000000001234 = none := by decide
theorem test_decode_layout_nonzero_upper_bits : decodeTableWord 40 0x9512030101 = none := by decide
theorem test_decode_no_other_length : decodeTableWord 32 0x10 = none := by decide
theorem test_encode_pasel_cmp : encode (.paselCmp .hp .lp) = .req 0x43000000000000000100 := by decide
theorem test_encode_layout_paconfig : encode (.bufferPaconfig 0x95 2 3 .lp 0x01) = .cmd5 0x9502030101 := by decide

/-! One step from reset with a request word presented: the response. -/

/-- The response to a request word presented to the machine as it is after reset. -/
def answerTo (w : Nat) : Option Response := responseOf (State.reset.withFetchWord 80 w)

/-- A response that carries a buffer. -/
def withBuf (b : Buf40) : Option Response := some ⟨b, 0, false, false⟩

/-- A response that carries a scalar. -/
def withRes (v : Word) : Option Response := some ⟨.zero, v, false, false⟩

/-- 95_test_vectors.md section 2.3, row 2. -/
theorem test_step_rffreqFromBits_order : answerTo 0x10000000000012345678 = withBuf ⟨0x86, 0x12, 0x34, 0x56, 0x78⟩ := by decide
/-- 95_test_vectors.md section 2.1, row 20: floor, not nearest. -/
theorem test_step_rffreqFromFrequency_floors : answerTo 0x11000000000000000014 = withBuf ⟨0x86, 0x00, 0x00, 0x00, 0x14⟩ := by decide
/-- 95_test_vectors.md section 2.1, last row: wide product, wrapped. -/
theorem test_step_rffreqFromFrequency_wide : answerTo 0x110000000000FFFFFFFF = withBuf ⟨0x86, 0x0C, 0x6F, 0x7A, 0x0A⟩ := by decide
/-- 95_test_vectors.md example S3. -/
theorem test_step_rffreqFreq_max : answerTo 0x1286FFFFFFFF00000000 = withRes 4095999999 := by decide
/-- 95_test_vectors.md section 2.2, end. -/
theorem test_step_rffreqFreq_ignores_byte0 : answerTo 0x12003930000000000000 = withRes 915000000 := by decide
/-- 95_test_vectors.md section 2.3. -/
theorem test_step_rffreqAsSlice : answerTo 0x1300FF00FF0000000000 = withBuf ⟨0x00, 0xFF, 0x00, 0xFF, 0x00⟩ := by decide
/-- 95_test_vectors.md example S6. -/
theorem test_step_rffreqF433 : answerTo 0x14000000000000000000 = withBuf ⟨0x86, 0x1B, 0x10, 0x00, 0x00⟩ := by decide
/-- 95_test_vectors.md example S5. -/
theorem test_step_rffreqF868 : answerTo 0x15000000000000000000 = withBuf ⟨0x86, 0x36, 0x40, 0x00, 0x00⟩ := by decide
/-- 95_test_vectors.md example S4. -/
theorem test_step_rffreqF915 : answerTo 0x16000000000000000000 = withBuf ⟨0x86, 0x39, 0x30, 0x00, 0x00⟩ := by decide
/-- 95_test_vectors.md example S14. -/
theorem test_step_paconfigNew : answerTo 0x20000000000000000000 = withBuf ⟨0x95, 0x01, 0x00, 0x00, 0x01⟩ := by decide
/-- 95_test_vectors.md section 2.4, corner cases, row 1. -/
theorem test_step_paconfigSetPaDutyCycle_drops_old_bits : answerTo 0x2195F900000100000002 = withBuf ⟨0x95, 0x02, 0x00, 0x00, 0x01⟩ := by decide
/-- 95_test_vectors.md section 2.4, v = 0xF8. -/
theorem test_step_paconfigSetPaDutyCycle_masks : answerTo 0x219501000001000000F8 = withBuf ⟨0x95, 0x00, 0x00, 0x00, 0x01⟩ := by decide
/-- 95_test_vectors.md section 2.4, corner cases, row 2. -/
theorem test_step_paconfigSetHpMax_keeps_byte4 : answerTo 0x22950100000000000001 = withBuf ⟨0x95, 0x01, 0x01, 0x00, 0x00⟩ := by decide
/-- 95_test_vectors.md P7 t1. -/
theorem test_step_paconfigSetHpMax_wrong_family : answerTo 0x228639300000000000FF = withBuf ⟨0x86, 0x39, 0x07, 0x00, 0x00⟩ := by decide
/-- 95_test_vectors.md section 2.4, corner cases, row 3. -/
theorem test_step_paconfigSetPa_lp : answerTo 0x23000100000100000001 = withBuf ⟨0x00, 0x01, 0x00, 0x01, 0x01⟩ := by decide
/-- 95_test_vectors.md section 2.4, SET_PA. -/
theorem test_step_paconfigSetPa_reads_bit0 : answerTo 0x239501000001FFFFFFFE = withBuf ⟨0x95, 0x01, 0x00, 0x00, 0x01⟩ := by decide
/-- 95_test_vectors.md P1 t4. -/
theorem test_step_paconfigAsSlice : answerTo 0x24950203000100000000 = withBuf ⟨0x95, 0x02, 0x03, 0x00, 0x01⟩ := by decide
/-- 95_test_vectors.md example S15. -/
theorem test_step_tcxomodeNew : answerTo 0x30000000000000000000 = withBuf ⟨0x97, 0x00, 0x00, 0x00, 0x00⟩ := by decide
/-- 95_test_vectors.md section 2.5. -/
theorem test_step_tcxomodeSetTcxoTrim_whole_byte : answerTo 0x3197FFAABBCC00000002 = withBuf ⟨0x97, 0x02, 0xAA, 0xBB, 0xCC⟩ := by decide
/-- 95_test_vectors.md section 2.5. -/
theorem test_step_tcxomodeSetTcxoTrim_reads_three_bits : answerTo 0x3197000000000000000F = withBuf ⟨0x97, 0x07, 0x00, 0x00, 0x00⟩ := by decide
/-- 95_test_vectors.md section 2.5. -/
theorem test_step_tcxomodeSetTimeout_order : answerTo 0x3297000000000000FF01 = withBuf ⟨0x97, 0x00, 0x00, 0xFF, 0x01⟩ := by decide
/-- 95_test_vectors.md P4 t8: truncated, not saturated. -/
theorem test_step_tcxomodeSetTimeout_truncates : answerTo 0x32970712345601000000 = withBuf ⟨0x97, 0x07, 0x00, 0x00, 0x00⟩ := by decide
/-- 95_test_vectors.md P2 t3. -/
theorem test_step_tcxomodeAsSlice : answerTo 0x33970112345600000000 = withBuf ⟨0x97, 0x01, 0x12, 0x34, 0x56⟩ := by decide
/-- 95_test_vectors.md section 2.6. -/
theorem test_step_packettypeFromBits_last_accepted : answerTo 0x40000000000000000003 = withRes 3 := by decide
/-- 95_test_vectors.md section 2.6. -/
theorem test_step_packettypeFromBits_first_rejected : answerTo 0x40000000000000000004 = some ⟨.zero, 4, true, false⟩ := by decide
/-- 95_test_vectors.md P5 t1. -/
theorem test_step_packettypeBits : answerTo 0x41000000000000000002 = withRes 2 := by decide
/-- 95_test_vectors.md section 2.6. -/
theorem test_step_paselBits : answerTo 0x42000000000000000001 = withRes 1 := by decide
/-- 95_test_vectors.md P5 t3. -/
theorem test_step_paselCmp_less : answerTo 0x43000000000000000001 = withRes 3 := by decide
/-- 95_test_vectors.md P5 t4. -/
theorem test_step_paselCmp_greater : answerTo 0x43000000000000000100 = withRes 1 := by decide
/-- 95_test_vectors.md section 2.6. -/
theorem test_step_regmodeBits : answerTo 0x44000000000000000001 = withRes 0x01 := by decide
/-- 95_test_vectors.md section 2.6. -/
theorem test_step_ocpBits_0 : answerTo 0x45000000000000000000 = withRes 0x18 := by decide
/-- 95_test_vectors.md section 2.6. -/
theorem test_step_ocpBits_1 : answerTo 0x45000000000000000001 = withRes 0x38 := by decide
/-- 95_test_vectors.md section 2.6. -/
theorem test_step_tcxotrimBits : answerTo 0x46000000000000000007 = withRes 7 := by decide
/-- 95_test_vectors.md P5 t5. -/
theorem test_step_tcxotrimAsMillivolts_1 : answerTo 0x47000000000000000001 = withRes 1700 := by decide
/-- 95_test_vectors.md section 2.6. -/
theorem test_step_tcxotrimAsMillivolts_6 : answerTo 0x47000000000000000006 = withRes 3000 := by decide
/-- 95_test_vectors.md P5 t6. -/
theorem test_step_reserved_select : answerTo 0x99000000000000001234 = some ⟨.zero, 0, false, true⟩ := by decide

/-- NARROW_MODE saturate, hand calculation from D8: the largest operand gives the largest register value. -/
theorem test_narrow_saturate : narrow .saturate (rfEncode 0xFFFFFFFF) = 0xFFFFFFFF := by decide

/-- The packed response word of 30_encoding.md R37, by hand: `err` is bit 72. -/
theorem test_response_word : (rejectedResponse 0x80).toWord = 0x1000000000000000080 := by decide

/-! The host's side and the caller's obligations (30_encoding.md R51, R52, 70_reset_and_hazards.md R107 to R111). -/

theorem test_script_names_earlier_lines_only : scriptWellFormed 0 [⟨0x20, none, 0⟩, ⟨0x24, some 1, 0⟩] = false := by decide
theorem test_script_well_formed : scriptWellFormed 0 [⟨0x20, none, 0⟩, ⟨0x24, some 0, 0⟩] = true := by decide
theorem test_line_takes_the_named_buffer :
    lineRequest [bufResponse ⟨0x95, 1, 0, 0, 1⟩] ⟨0x22, some 0, 3⟩ = ⟨0x22, ⟨0x95, 1, 0, 0, 1⟩, 3⟩ := by decide
theorem test_duty_cycle_bounds :
    dutyCycleBound defaultConfig .hp 915000000 = some 4 ∧ dutyCycleBound defaultConfig .lp 400000001 = some 7 ∧
    dutyCycleBound defaultConfig .lp 399999999 = some 4 ∧ dutyCycleBound defaultConfig .lp 400000000 = none := by decide
theorem test_frequency_range :
    frequencyLegal defaultConfig 150000000 = true ∧ frequencyLegal defaultConfig 149999999 = false ∧
    frequencyLegal defaultConfig 960000001 = false := by decide
theorem test_ticks_range : ticksLegal 0x00FFFFFF = true ∧ ticksLegal 0x01000000 = false := by decide
theorem test_buffer_family :
    belongsTo defaultConfig .rfFreq ⟨0x86, 0x39, 0x07, 0, 0⟩ = true ∧
    belongsTo defaultConfig .paConfig ⟨0x86, 0x39, 0x07, 0, 0⟩ = false := by decide

/-! Witnesses: a state and operands that meet the hypotheses of each statement that has some, at boundary values. -/

/-- Reset with a request of every `arg` bit set on the port. -/
def stateAt (opsel : Byte) : State := State.reset.drive ⟨opsel, ⟨0x95, 0xFF, 0xFF, 0xFF, 0xFF⟩, 0xFFFFFFFF⟩

theorem witness_DecodeInvertsEncode :
    defaultConfig.OpcodesDistinct ∧ (Instr.bufferPaconfig 0x95 7 7 .lp 0x01).wellFormed defaultConfig = true := by decide

/-- The hypothesis `s.req.opsel = c` of the operation map, of every result statement and of the statements on response
fields is met for each of the 24 select codes. -/
theorem witness_OperationMapSelectsEachOperation :
    (stateAt 0x10).req.opsel = 0x10 ∧ (stateAt 0x11).req.opsel = 0x11 ∧ (stateAt 0x12).req.opsel = 0x12 ∧
    (stateAt 0x13).req.opsel = 0x13 ∧ (stateAt 0x14).req.opsel = 0x14 ∧ (stateAt 0x15).req.opsel = 0x15 ∧
    (stateAt 0x16).req.opsel = 0x16 ∧ (stateAt 0x20).req.opsel = 0x20 ∧ (stateAt 0x21).req.opsel = 0x21 ∧
    (stateAt 0x22).req.opsel = 0x22 ∧ (stateAt 0x23).req.opsel = 0x23 ∧ (stateAt 0x24).req.opsel = 0x24 ∧
    (stateAt 0x30).req.opsel = 0x30 ∧ (stateAt 0x31).req.opsel = 0x31 ∧ (stateAt 0x32).req.opsel = 0x32 ∧
    (stateAt 0x33).req.opsel = 0x33 ∧ (stateAt 0x40).req.opsel = 0x40 ∧ (stateAt 0x41).req.opsel = 0x41 ∧
    (stateAt 0x42).req.opsel = 0x42 ∧ (stateAt 0x43).req.opsel = 0x43 ∧ (stateAt 0x44).req.opsel = 0x44 ∧
    (stateAt 0x45).req.opsel = 0x45 ∧ (stateAt 0x46).req.opsel = 0x46 ∧ (stateAt 0x47).req.opsel = 0x47 := by decide

theorem witness_ReservedSelectsAnswerIll :
    reservedSelect (stateAt 0x00).req.opsel = true ∧ reservedSelect (stateAt 0x0F).req.opsel = true ∧
    reservedSelect (stateAt 0x10).req.opsel = false ∧ reservedSelect (stateAt 0x16).req.opsel = false ∧
    reservedSelect (stateAt 0x17).req.opsel = true ∧ reservedSelect (stateAt 0x1F).req.opsel = true ∧
    reservedSelect (stateAt 0x20).req.opsel = false ∧ reservedSelect (stateAt 0x24).req.opsel = false ∧
    reservedSelect (stateAt 0x25).req.opsel = true ∧ reservedSelect (stateAt 0x2F).req.opsel = true ∧
    reservedSelect (stateAt 0x30).req.opsel = false ∧ reservedSelect (stateAt 0x33).req.opsel = false ∧
    reservedSelect (stateAt 0x34).req.opsel = true ∧ reservedSelect (stateAt 0x3F).req.opsel = true ∧
    reservedSelect (stateAt 0x40).req.opsel = false ∧ reservedSelect (stateAt 0x47).req.opsel = false ∧
    reservedSelect (stateAt 0x48).req.opsel = true ∧ reservedSelect (stateAt 0xFF).req.opsel = true := by decide

/-- One operation that uses the buffer and one that does not, with ignored bits changed. -/
theorem witness_DecodeIgnoresUnusedBits :
    ((usesBuf 0x23 = true → (⟨1, 2, 3, 4, 5⟩ : Buf40) = ⟨1, 2, 3, 4, 5⟩) ∧ (0xFFFFFFFF : Word) &&& argMask 0x23 = 1 &&& argMask 0x23) ∧
    ((usesBuf 0x43 = true → (⟨1, 2, 3, 4, 5⟩ : Buf40) = .zero) ∧ (0xFFFFFFFF : Word) &&& argMask 0x43 = 0x101 &&& argMask 0x43) := by
  decide

theorem witness_StepRunsTheDecodedInstruction :
    decode (stateAt 0x16).req = .ok .rffreqF915 ∧ decodeTableWord 80 0x16000000000000000000 = some .rffreqF915 :=
  ⟨rfl, by decide⟩

/-- A rejected packet type answers, with `err` = 1; so does an accepted one, with `err` = 0. -/
theorem witness_OnlyUnrecognisedPacketTypeFails :
    (∃ t, step (State.reset.drive ⟨0x40, .zero, 4⟩) = .next t ∧ t.rsp.err = true) ∧
    (∃ t, step (State.reset.drive ⟨0x40, .zero, 3⟩) = .next t ∧ t.rsp.err = false) :=
  ⟨⟨_, rfl, rfl⟩, ⟨_, rfl, rfl⟩⟩

theorem witness_EveryRequestIsAnswered : ∃ t, step (State.reset.drive ⟨0x40, .zero, 0xFF⟩) = .next t ∧ t.rsp.err = true :=
  ⟨_, rfl, rfl⟩

theorem witness_ExecChangesTheResponseOnly : ∃ t, exec .rffreqF915 State.reset = .next t := ⟨_, rfl⟩

/-- A buffer operation, a scalar operation and PACKETTYPE.FROM_BITS each answer. -/
theorem witness_UnproducedFieldsAreZero :
    (∃ t, step (stateAt 0x10) = .next t) ∧ (∃ t, step (stateAt 0x47) = .next t) ∧ (∃ t, step (stateAt 0x40) = .next t) :=
  ⟨⟨_, rfl⟩, ⟨_, rfl⟩, ⟨_, rfl⟩⟩

/-- The clauses of the byte table: no buffer used, FREQ, AS_SLICE, each setter; a second buffer answers as well. -/
theorem witness_BufferBytesReadAndWritten :
    usesBuf (stateAt 0x30).req.opsel = false ∧ (stateAt 0x12).req.opsel = 0x12 ∧
    (∃ t, step (stateAt 0x24) = .next t) ∧ (∃ t, step (stateAt 0x31) = .next t) ∧ (∃ t, step (stateAt 0x22) = .next t) ∧
    (∃ t, step (stateAt 0x23) = .next t) ∧
    (∃ t u, step (stateAt 0x32) = .next t ∧ step ((stateAt 0x32).drive ⟨0x32, .zero, 0xFFFFFFFF⟩) = .next u) :=
  ⟨by decide, rfl, ⟨_, rfl⟩, ⟨_, rfl⟩, ⟨_, rfl⟩, ⟨_, rfl⟩, ⟨_, _, rfl, rfl⟩⟩

/-- A state that meets the invariant (the reset constants, with a lawful response of its own) and takes a step. -/
theorem witness_StepKeepsInvariant :
    ((stateAt 0x12).answer (rejectedResponse 0xFF)).Inv ∧ ∃ t, step ((stateAt 0x12).answer (rejectedResponse 0xFF)) = .next t := by
  refine ⟨?_, _, rfl⟩
  unfold State.Inv Response.Lawful
  decide

theorem witness_RepeatedStepChangesNothing : ∃ t, step (stateAt 0x11) = .next t := ⟨_, rfl⟩

/-- Two different states that meet the hypotheses: another response on the port, another unused buffer and bits. -/
theorem witness_ResponseDependsOnRequestOnly :
    let s := stateAt 0x43
    let s' := (State.reset.drive ⟨0x43, .zero, 0x101⟩).answer (rejectedResponse 9)
    s ≠ s' ∧ s.cfg = s'.cfg ∧ s.req.opsel = s'.req.opsel ∧ (usesBuf s.req.opsel = true → s.req.bufIn = s'.req.bufIn) ∧
    s.req.arg &&& argMask s.req.opsel = s'.req.arg &&& argMask s.req.opsel := by
  decide

theorem witness_ClientsDoNotInterfere :
    State.reset.cfg = (stateAt 0x10).cfg ∧ ∃ x y, serve State.reset [(stateAt 0x10).req, (stateAt 0x40).req] = [x, y] :=
  ⟨rfl, _, _, rfl⟩

/-- A line that names the last line done, one that names the first, one that names none, and the line at the end of a
well-formed script that names the line just before it. -/
theorem witness_ScriptRunsLineByLine :
    let done := [bufResponse ⟨0x95, 1, 0, 0, 1⟩, bufResponse ⟨0x97, 0, 0, 0, 0⟩]
    (((⟨0x24, some 0, 0⟩ : Line).buffer = some 0 ∧ done[0]? = some (bufResponse ⟨0x95, 1, 0, 0, 1⟩)) ∧
      ((⟨0x33, some 1, 0⟩ : Line).buffer = some 1 ∧ done[1]? = some (bufResponse ⟨0x97, 0, 0, 0, 0⟩)) ∧
      (⟨0x20, none, 0⟩ : Line).buffer = none) ∧
    (scriptWellFormed done.length ([⟨0x16, none, 0⟩] ++ ⟨0x12, some 2, 0⟩ :: [⟨0x24, some 0, 0⟩]) = true ∧
      (⟨0x12, some 2, 0⟩ : Line).buffer = some 2) := by decide

/-- The first two transactions of a listing of 95_test_vectors.md part 3 (F915, then SET_HP_MAX on its buffer): the
second line's response is made from the first line's buffer. -/
theorem test_script_feeds_the_named_buffer :
    (runScript State.reset [] [⟨0x16, none, 0⟩, ⟨0x22, some 0, 0xFF⟩]).map (·.bufOut) =
      [⟨0x86, 0x39, 0x30, 0x00, 0x00⟩, ⟨0x86, 0x39, 0x07, 0x00, 0x00⟩] := by decide

/-- The largest and the smallest frequency of the law. -/
theorem witness_DecodeAfterEncodeLosesAtMostOneHz : (4095999999 : Word).toNat ≤ 4095999999 ∧ (0 : Word).toNat ≤ 4095999999 := by
  decide

theorem witness_ConversionsAreMonotone :
    ((4095999998 : Word).toNat < (4095999999 : Word).toNat ∧ (4095999999 : Word).toNat ≤ 4095999999 ∧
      (bufferOf State.reset (.rffreqFromFrequency 4095999998)).isSome = true ∧
      (bufferOf State.reset (.rffreqFromFrequency 4095999999)).isSome = true) ∧
    (bigEndianValue ⟨0, 0, 0, 0, 21⟩ ≤ bigEndianValue ⟨0, 0, 0, 0, 22⟩ ∧
      (scalarOf State.reset (.rffreqFreq ⟨0, 0, 0, 0, 21⟩)).isSome = true ∧
      (scalarOf State.reset (.rffreqFreq ⟨0, 0, 0, 0, 22⟩)).isSome = true) := by
  decide

/-- The largest multiple of the law. -/
theorem witness_MultiplesAreFixedAndEncodeIsNotOnto : 15625 * 262143 ≤ 4095999999 := by decide

theorem witness_PseudoOperationsStandForOperations :
    (4095999999 : Word).toNat ≤ 4095999999 ∧ (∃ t, exec (.packettypeFromBits 3) State.reset = .next t) ∧
    (∃ t, exec (.packettypeFromBits 4) State.reset = .next t) ∧ (∃ t, exec (.paselCmp .lp .hp) State.reset = .next t) :=
  ⟨by decide, ⟨_, rfl⟩, ⟨_, rfl⟩, ⟨_, rfl⟩⟩

theorem witness_PaSetterChainKeepsTheLastOfEachField :
    [PaSetter.pa .lp, .hpMax 6, .dutyCycle 4].Perm [.dutyCycle 4, .hpMax 6, .pa .lp] := by decide

theorem witness_PaBuffersFromNewHaveTheLayout :
    PaReachable State.reset ⟨0x95, 0x02, 0x00, 0x00, 0x01⟩ ∧
    (bufferOf State.reset (.paconfigSetPaDutyCycle .zero 0xFF)).isSome = true ∧
    (bufferOf State.reset (.paconfigSetHpMax .zero 0xFF)).isSome = true ∧
    (bufferOf State.reset (.paconfigSetPa .zero .lp)).isSome = true :=
  ⟨⟨_, [.dutyCycle 2], rfl, rfl⟩, by decide, by decide, by decide⟩

theorem witness_TcxoBuffersFromNewHaveTheLayout :
    TcxoReachable State.reset ⟨0x97, 0x07, 0x00, 0x00, 0x00⟩ ∧
    (bufferOf State.reset (.tcxomodeSetTimeout .zero 0x01000000)).isSome = true ∧
    (bufferOf State.reset (.tcxomodeSetTcxoTrim .zero .volts3pt3)).isSome = true :=
  ⟨⟨_, [.trim .volts3pt3], rfl, rfl⟩, by decide, by decide⟩

theorem witness_RfFreqBuffersHaveTheLayout :
    (bufferOf State.reset (.rffreqFromFrequency 0xFFFFFFFF)).isSome = true ∧
    (bufferOf State.reset .rffreqF433).isSome = true ∧ (bufferOf State.reset .rffreqF868).isSome = true ∧
    (bufferOf State.reset .rffreqF915).isSome = true := by decide

theorem witness_CodesOfTheFixedEnumerationsAreTheirIndices :
    scalarOf State.reset (.packettypeBits .pt3) = some 3 ∧
    (∃ t, exec (.packettypeFromBits (BitVec.ofNat 8 (3 : Word).toNat)) State.reset = .next t) ∧
    scalarOf State.reset (.tcxotrimBits .volts3pt3) = some 7 ∧
    (bufferOf State.reset (.tcxomodeSetTcxoTrim .zero .volts3pt3)).isSome = true :=
  ⟨by decide, ⟨_, rfl⟩, by decide, by decide⟩

theorem witness_BuffersAreBigEndian : (bufferOf State.reset (.rffreqFromBits 0xFFFFFFFF)).isSome = true := by decide

theorem witness_MillivoltTableIsAnswered : State.reset.cfg.MillivoltsInRange := by decide

theorem witness_PacketTypeRoundTrip :
    ∃ t, exec (.packettypeFromBits 3) State.reset = .next t ∧ t.rsp.err = false := ⟨_, rfl, rfl⟩

theorem witness_CodeMappingsAreInjective :
    State.reset.cfg.CodesDistinct ∧ State.reset.cfg.OpcodesDistinct ∧
    scalarOf State.reset (.regmodeBits .rm1) = scalarOf State.reset (.regmodeBits .rm1) ∧
    (bufferOf State.reset (.rffreqFromBits 0)).isSome = true ∧
    ((bufferOf State.reset .paconfigNew).bind (fun b => paChain State.reset b [.hpMax 1])).isSome = true ∧
    ((bufferOf State.reset .tcxomodeNew).bind (fun b => tcxoChain State.reset b [.timeout 1])).isSome = true := by decide

theorem witness_BufferLayoutsAreNotOperations : decode (stateAt 0x47).req = .ok (.tcxotrimAsMillivolts .volts3pt3) := rfl

end Sys2Proof.Tests
end

section
/-! PROOFS of 00_scope.md. What an instruction, a decoded request and a step can do, each said once; then the totality
of the block (R8). -/

namespace Sys2Proof.Machine

open Sys2Proof.Laws.EncodedSelect (select)

/-- FROM_BITS answers the variant's index or rejects a byte that is no code (44_enumerations.md R77). -/
theorem execPackettypeFromBits_cases (raw : Byte) (s : State) :
    (∃ p, raw = packetTypeCode p ∧ execPackettypeFromBits raw s = answerRes s p.toIndex) ∨
    (4 ≤ raw.toNat ∧ execPackettypeFromBits raw s = answer s (rejectedResponse raw)) := by
  unfold execPackettypeFromBits
  cases h : packetTypeOfCode raw with
  | some p => exact .inl ⟨p, packetTypeOfCode_some_iff.mp h, rfl⟩
  | none => exact .inr ⟨packetTypeOfCode_none_iff.mp h, rfl⟩

/-- All an instruction can do: answer a buffer, answer a scalar, reject a byte (FROM_BITS alone), or be refused as no
operation of the block (the layouts alone, which have no select code). -/
theorem exec_cases (i : Instr) (s : State) :
    (∃ b, exec i s = answerBuf s b) ∨
    (∃ (n : Nat) (v : BitVec n), exec i s = answerRes s v) ∨
    (∃ raw, i = .packettypeFromBits raw ∧ 4 ≤ raw.toNat ∧ exec i s = answer s (rejectedResponse raw)) ∨
    (select i = none ∧ ∃ name, exec i s = .refused (.notAnOperation name)) := by
  cases i with
  | rffreqFromBits | rffreqFromFrequency | rffreqAsSlice | rffreqF433 | rffreqF868 | rffreqF915 | paconfigNew
  | paconfigSetPaDutyCycle | paconfigSetHpMax | paconfigSetPa | paconfigAsSlice | tcxomodeNew | tcxomodeSetTcxoTrim
  | tcxomodeSetTimeout | tcxomodeAsSlice => exact .inl ⟨_, rfl⟩
  | rffreqFreq | packettypeBits | paselBits | paselCmp | regmodeBits | ocpBits | tcxotrimBits
  | tcxotrimAsMillivolts => exact .inr (.inl ⟨_, _, rfl⟩)
  | packettypeFromBits raw =>
    obtain ⟨_, _, haccept⟩ | ⟨hraw, hreject⟩ := execPackettypeFromBits_cases raw s
    · exact .inr (.inl ⟨_, _, haccept⟩)
    · exact .inr (.inr (.inl ⟨raw, rfl, hraw, hreject⟩))
  | bufferRffreq | bufferPaconfig | bufferTcxomode => exact .inr (.inr (.inr ⟨rfl, _, rfl⟩))

/-- The decoder reads an instruction only from a request that carries the instruction's own select code
(30_encoding.md R38); so it reads no layout. -/
theorem select_of_decode_ok {q : Request} {i : Instr} (h : decode q = .ok i) : select i = some q.opsel := by
  unfold decode at h
  split at h
  case h_25 => cases h
  all_goals
    rename_i hopsel
    cases h
    rw [hopsel]
    rfl

/-- FROM_BITS of PACKETTYPE is read from select code 0x40 only, with the low byte of `arg` as its operand
(30_encoding.md R38, R39). -/
theorem decode_eq_packettypeFromBits_iff {q : Request} {raw : Byte} :
    decode q = .ok (.packettypeFromBits raw) ↔ q.opsel = 0x40 ∧ raw = q.arg.extractLsb' 0 8 := by
  have decode_at (h : q.opsel = 0x40) : decode q = .ok (.packettypeFromBits (q.arg.extractLsb' 0 8)) := by
    rw [decode, h]
    rfl
  constructor
  · intro h
    have hopsel : q.opsel = 0x40 := (Option.some.inj (select_of_decode_ok h)).symm
    rw [decode_at hopsel] at h
    cases h
    exact ⟨hopsel, rfl⟩
  · rintro ⟨hopsel, rfl⟩
    exact decode_at hopsel

/-- A step answers every request, and reports failure only as FROM_BITS' rejection of its operand byte (00_scope.md R8,
60_exceptions.md R87). -/
theorem step_answers (s : State) :
    ∃ r, step s = .next (s.answer r) ∧
      (r.err = true → s.req.opsel = 0x40 ∧ r = rejectedResponse (s.req.arg.extractLsb' 0 8)) := by
  rw [step_eq]
  obtain ⟨i, hdecode, hrun⟩ | ⟨_, _, hreserved⟩ := transact_cases s
  · rw [hrun]
    obtain ⟨b, hbuf⟩ | ⟨_, v, hres⟩ | ⟨raw, rfl, _, hreject⟩ | ⟨hlayout, _⟩ := exec_cases i s
    · exact ⟨bufResponse b, hbuf, by simp⟩
    · exact ⟨resResponse v, hres, by simp⟩
    · obtain ⟨hopsel, rfl⟩ := decode_eq_packettypeFromBits_iff.mp hdecode
      exact ⟨rejectedResponse _, hreject, fun _ => ⟨hopsel, rfl⟩⟩
    · simp [select_of_decode_ok hdecode] at hlayout
  · exact ⟨reservedResponse, hreserved, by simp⟩

/-- The byte FROM_BITS rejects is `arg` modulo 256, in `rsp.res` (30_encoding.md R39, R41). -/
theorem rejectedResponse_res_toNat (arg : Word) :
    (rejectedResponse (arg.extractLsb' 0 8)).res.toNat = arg.toNat % 256 := by
  simp only [rejectedResponse_res, BitVec.toNat_setWidth, BitVec.extractLsb'_toNat, Nat.shiftRight_zero]
  omega

/-- Settles O8: the answer changes the response port only, and the one failure is FROM_BITS' (`step_answers`). -/
theorem everyRequestIsAnswered : Obligations.EveryRequestIsAnswered := by
  intro s
  obtain ⟨r, hstep, hfail⟩ := step_answers s
  refine ⟨s.answer r, hstep, State.answer_req s r, State.answer_cfg s r, fun herr => ?_⟩
  obtain ⟨hopsel, rfl⟩ := hfail herr
  exact ⟨hopsel, rejectedResponse_res_toNat s.req.arg⟩

end Sys2Proof.Machine
end

section
/-! PROOFS of 20_memory.md. A response is a function of the constants and the decoded instruction, so requests served on
one block do not interfere (R32); the buffer each operation answers with (R24); byte order (R25). -/

namespace Sys2Proof.Machine

open Sys2Proof.Laws.EncodedSelect (select)

/-! What a response depends on. -/

/-- An operation reads the constants of the state and neither port: from two states with equal constants it gives one
response. -/
theorem exec_congr_cfg {s s' : State} {i : Instr} (hcfg : s.cfg = s'.cfg) (hop : (select i).isSome) :
    ∃ r, exec i s = answer s r ∧ exec i s' = answer s' r := by
  obtain ⟨c, q, x⟩ := s
  obtain ⟨_, q', x'⟩ := s'
  obtain rfl : c = _ := hcfg
  cases i with
  | packettypeFromBits raw =>
    simp only [exec, execPackettypeFromBits]
    cases packetTypeOfCode raw <;> exact ⟨_, rfl, rfl⟩
  | bufferRffreq | bufferPaconfig | bufferTcxomode => cases hop
  | _ => exact ⟨_, rfl, rfl⟩

/-- A step reads the constants and the decoded request only. -/
theorem step_congr {s s' : State} (hcfg : s.cfg = s'.cfg) (hdecode : decode s.req = decode s'.req) :
    ∃ r, step s = answer s r ∧ step s' = answer s' r := by
  simp only [step_eq, transact, ← hdecode]
  cases h : decode s.req with
  | ok i => exact exec_congr_cfg hcfg (by simp [select_of_decode_ok h])
  | error e => exact ⟨reservedResponse, rfl, rfl⟩

theorem responseOf_of_step_eq_answer {s : State} {r : Response} (h : step s = answer s r) : responseOf s = some r := by
  simp [responseOf, h, answer]

/-- Equal constants and equally decoded requests give equal responses (10_state.md R9). -/
theorem responseOf_congr {s s' : State} (hcfg : s.cfg = s'.cfg) (hdecode : decode s.req = decode s'.req) :
    responseOf s = responseOf s' := by
  obtain ⟨r, hs, hs'⟩ := step_congr hcfg hdecode
  rw [responseOf_of_step_eq_answer hs, responseOf_of_step_eq_answer hs']

/-- A transaction of a served sequence leaves the constants for the ones after it. -/
theorem serve_cons (s : State) (q : Request) (rest : List Request) :
    ∃ t, t.cfg = s.cfg ∧ serve s (q :: rest) = responseOf (s.drive q) :: serve t rest := by
  obtain ⟨r, hstep, -⟩ := step_answers (s.drive q)
  exact ⟨(s.drive q).answer r, rfl, by rw [responseOf_of_step_eq_answer hstep]; simp [serve, hstep]⟩

/-- Each request of a served sequence gets the response it gets alone, on any block with the same constants
(20_memory.md R32 (a)). -/
theorem serve_eq_map {s s' : State} (hcfg : s.cfg = s'.cfg) (rs : List Request) :
    serve s rs = rs.map (fun r => responseOf (s'.drive r)) := by
  induction rs generalizing s with
  | nil => rfl
  | cons q rest ih =>
    obtain ⟨t, ht, hserve⟩ := serve_cons s q rest
    have hfirst : responseOf (s.drive q) = responseOf (s'.drive q) := responseOf_congr hcfg rfl
    rw [hserve, ih (ht.trans hcfg), hfirst, List.map_cons]

/-- Tagging results with their clients and then picking one client's is picking that client's requests first. -/
theorem filterMap_zip_map_eq_map_filter {α β : Type} (f : α → β) (client : Nat) (tagged : List (Nat × α)) :
    ((tagged.map Prod.fst).zip ((tagged.map Prod.snd).map f)).filterMap
        (fun p => if p.1 = client then some p.2 else none) =
      ((tagged.filter (fun p => p.1 = client)).map Prod.snd).map f := by
  induction tagged with
  | nil => rfl
  | cons p rest ih => by_cases h : p.1 = client <;> simp [h, ih, -List.map_map]

/-- Settles O18: a served sequence is answered request by request (`serve_eq_map`), whatever stands around each. -/
theorem clientsDoNotInterfere : Obligations.ClientsDoNotInterfere := by
  refine ⟨fun s s' rs hcfg => serve_eq_map hcfg rs, fun s client tagged => ?_, fun s q r x y h => ?_⟩
  · rw [serve_eq_map rfl, serve_eq_map rfl]
    exact filterMap_zip_map_eq_map_filter _ client tagged
  · rw [serve_eq_map rfl] at h ⊢
    obtain ⟨rfl, rfl⟩ : responseOf (s.drive q) = x ∧ responseOf (s.drive r) = y := by simpa using h
    rfl

/-! The buffer each operation answers with. -/

/-- An operation whose column "uses `buf_in`" is empty decodes to the same instruction for every `buf_in`
(30_encoding.md R38). -/
theorem decode_of_not_usesBuf {q : Request} (b : Buf40) (hunused : usesBuf q.opsel = false) :
    decode { q with bufIn := b } = decode q := by
  simp only [decode]
  split
  case h_3 h | h_4 h | h_9 h | h_10 h | h_11 h | h_12 h | h_14 h | h_15 h | h_16 h => simp [h, usesBuf] at hunused
  all_goals rfl

/-- The buffer on the response port after a step that ran an operation answering with a buffer. -/
theorem bufOut_of_step {s t : State} {i : Instr} {b : Buf40} (hdecode : decode s.req = .ok i)
    (hexec : exec i s = answerBuf s b) (hstep : step s = .next t) : t.rsp.bufOut = b := by
  rw [step_eq, transact, hdecode] at hstep
  obtain rfl := answerBuf_next_iff.mp (hexec.symm.trans hstep)
  rfl

section
variable {s t : State} (hstep : step s = .next t)
include hstep

/-- Each AS_SLICE answers the bytes of `buf_in` (41_rffreq.md R58, 42_paconfig.md R68, 43_tcxomode.md R74). -/
theorem bufOut_of_asSlice (hopsel : s.req.opsel ∈ [0x13#8, 0x24, 0x33]) : t.rsp.bufOut = s.req.bufIn := by
  simp only [List.mem_cons, List.not_mem_nil, or_false] at hopsel
  obtain hrf | hpa | htcxo := hopsel
  · exact bufOut_of_step (by rw [decode, hrf]; rfl) rfl hstep
  · exact bufOut_of_step (by rw [decode, hpa]; rfl) rfl hstep
  · exact bufOut_of_step (by rw [decode, htcxo]; rfl) rfl hstep

/-- SET_PA_DUTY_CYCLE writes byte 1 from `arg[7:0]` and copies the others (42_paconfig.md R65). -/
theorem bufOut_of_setPaDutyCycle (hopsel : s.req.opsel = 0x21) :
    t.rsp.bufOut = { s.req.bufIn with b1 := low3 (s.req.arg.extractLsb' 0 8) } :=
  bufOut_of_step (by rw [decode, hopsel]; rfl) rfl hstep

/-- SET_HP_MAX writes byte 2 from `arg[7:0]` and copies the others (42_paconfig.md R66). -/
theorem bufOut_of_setHpMax (hopsel : s.req.opsel = 0x22) :
    t.rsp.bufOut = { s.req.bufIn with b2 := low3 (s.req.arg.extractLsb' 0 8) } :=
  bufOut_of_step (by rw [decode, hopsel]; rfl) rfl hstep

/-- SET_PA writes byte 3 from `arg[0]` and copies the others (42_paconfig.md R67). -/
theorem bufOut_of_setPa (hopsel : s.req.opsel = 0x23) :
    t.rsp.bufOut = { s.req.bufIn with b3 := (paSelCode (.ofIndex (s.req.arg.extractLsb' 0 1))).setWidth 8 } :=
  bufOut_of_step (by rw [decode, hopsel]; rfl) rfl hstep

/-- SET_TCXO_TRIM writes byte 1 from `arg[2:0]` and copies the others (43_tcxomode.md R72). -/
theorem bufOut_of_setTcxoTrim (hopsel : s.req.opsel = 0x31) :
    t.rsp.bufOut = { s.req.bufIn with b1 := (tcxoTrimCode (.ofIndex (s.req.arg.extractLsb' 0 3))).setWidth 8 } :=
  bufOut_of_step (by rw [decode, hopsel]; rfl) rfl hstep

/-- SET_TIMEOUT writes bytes 2 to 4 from `arg` and copies the others (43_tcxomode.md R73). -/
theorem bufOut_of_setTimeout (hopsel : s.req.opsel = 0x32) : t.rsp.bufOut = withTicks s.req.bufIn s.req.arg :=
  bufOut_of_step (by rw [decode, hopsel]; rfl) rfl hstep

end

/-- An operation whose select code is in the scalar rows of the operation map answers no buffer (30_encoding.md R38,
R41). -/
theorem exec_bufOut_of_scalar_select {s t : State} {i : Instr} {o : Byte} (hselect : select i = some o)
    (hscalar : o ∈ [0x12#8, 0x40, 0x41, 0x42, 0x43, 0x44, 0x45, 0x46, 0x47]) (hexec : exec i s = .next t) :
    t.rsp.bufOut = .zero := by
  cases i with
  | rffreqFreq | packettypeBits | paselBits | paselCmp | regmodeBits | ocpBits | tcxotrimBits
  | tcxotrimAsMillivolts =>
    obtain rfl := answerRes_next_iff.mp hexec
    rfl
  | packettypeFromBits raw =>
    obtain ⟨_, _, haccept⟩ | ⟨_, hreject⟩ := execPackettypeFromBits_cases raw s
    · obtain rfl := answerRes_next_iff.mp (haccept.symm.trans hexec)
      rfl
    · obtain rfl := answer_next_iff.mp (hreject.symm.trans hexec)
      rfl
  | bufferRffreq | bufferPaconfig | bufferTcxomode => cases hselect
  | _ =>
    obtain rfl := Option.some.inj hselect
    exact absurd hscalar (by decide)

/-- A step on a scalar row of the operation map puts no buffer on the response port. -/
theorem bufOut_of_scalar_select {s t : State} (hstep : step s = .next t)
    (hscalar : s.req.opsel ∈ [0x12#8, 0x40, 0x41, 0x42, 0x43, 0x44, 0x45, 0x46, 0x47]) : t.rsp.bufOut = .zero := by
  obtain ⟨i, hdecode, hrun⟩ | ⟨_, _, hreserved⟩ := transact_cases s
  · exact exec_bufOut_of_scalar_select (select_of_decode_ok hdecode) hscalar (hrun.symm.trans hstep)
  · obtain rfl := answer_next_iff.mp (hreserved.symm.trans hstep)
    rfl

/-- FREQ answers from the register value in bytes 1 to 4 alone (41_rffreq.md R57). -/
theorem responseOf_freq {s : State} (hopsel : s.req.opsel = 0x12) :
    responseOf s = some (resResponse (rfDecode (rfBitsOf s.req.bufIn))) := by
  have hdecode : decode s.req = .ok (.rffreqFreq s.req.bufIn) := by
    rw [decode, hopsel]
    rfl
  apply responseOf_of_step_eq_answer
  rw [step_eq, transact, hdecode]
  rfl

/-- Settles O12: each clause is a row of R24's table, read off the buffer that row's operation answers with. -/
theorem bufferBytesReadAndWritten : Obligations.BufferBytesReadAndWritten := by
  refine ⟨fun s b hunused => ?unused, fun s b hfreq => ?freq, fun s t ht => ?copied, fun s b t u ht hu => ?written⟩
  case unused => exact responseOf_congr rfl (decode_of_not_usesBuf b hunused)
  case freq =>
    have hbits : rfBitsOf { s.req.bufIn with b0 := b } = rfBitsOf s.req.bufIn := rfl
    rw [responseOf_freq hfreq, ← hbits]
    exact responseOf_freq hfreq
  case copied =>
    refine ⟨bufOut_of_asSlice ht, fun h => ?_, fun h => ?_, fun h => ?_, fun h => ?_, bufOut_of_scalar_select ht⟩
    · simp only [List.mem_cons, List.not_mem_nil, or_false] at h
      obtain hduty | htrim := h
      · rw [bufOut_of_setPaDutyCycle ht hduty]
      · rw [bufOut_of_setTcxoTrim ht htrim]
    · rw [bufOut_of_setHpMax ht h]
    · rw [bufOut_of_setPa ht h]
    · rw [bufOut_of_setTimeout ht h]
      rfl
  case written =>
    refine ⟨fun h => ?_, fun h => ?_, fun h => ?_, fun h => ?_⟩
    · simp only [List.mem_cons, List.not_mem_nil, or_false] at h
      obtain hduty | htrim := h
      · rw [bufOut_of_setPaDutyCycle ht hduty, bufOut_of_setPaDutyCycle hu hduty]
        rfl
      · rw [bufOut_of_setTcxoTrim ht htrim, bufOut_of_setTcxoTrim hu htrim]
        rfl
    · rw [bufOut_of_setHpMax ht h, bufOut_of_setHpMax hu h]
      rfl
    · rw [bufOut_of_setPa ht h, bufOut_of_setPa hu h]
      rfl
    · rw [bufOut_of_setTimeout ht h, bufOut_of_setTimeout hu h]
      exact ⟨rfl, rfl, rfl⟩

/-! Byte order. -/

/-- The bytes of an RfFreq buffer by arithmetic, most significant first (20_memory.md R25). -/
theorem rfFreqBuf_bytes_toNat (c : Config) (bits : Word) :
    (rfFreqBuf c bits).b1.toNat = bits.toNat / 2 ^ 24 ∧ (rfFreqBuf c bits).b2.toNat = bits.toNat / 2 ^ 16 % 2 ^ 8 ∧
    (rfFreqBuf c bits).b3.toNat = bits.toNat / 2 ^ 8 % 2 ^ 8 ∧ (rfFreqBuf c bits).b4.toNat = bits.toNat % 2 ^ 8 := by
  have := bits.isLt
  simp only [rfFreqBuf, BitVec.extractLsb'_toNat, Nat.shiftRight_eq_div_pow, pow_zero, Nat.div_one, and_true]
  omega

/-- The low byte of a word, as SET_TIMEOUT takes it. -/
theorem toNat_setWidth_and_0xFF (w : Word) : ((w &&& 0xFF).setWidth 8).toNat = w.toNat % 2 ^ 8 := by
  rw [BitVec.toNat_setWidth, BitVec.toNat_and]
  have : w.toNat &&& (0xFF : Word).toNat = w.toNat % 2 ^ 8 := Nat.and_two_pow_sub_one_eq_mod w.toNat 8
  omega

/-- The bytes of a tick count by arithmetic, most significant first (20_memory.md R25). -/
theorem withTicks_bytes_toNat (b : Buf40) (ticks : Word) :
    (withTicks b ticks).b2.toNat = ticks.toNat / 2 ^ 16 % 2 ^ 8 ∧
    (withTicks b ticks).b3.toNat = ticks.toNat / 2 ^ 8 % 2 ^ 8 ∧
    (withTicks b ticks).b4.toNat = ticks.toNat % 2 ^ 8 := by
  simp only [withTicks, toNat_setWidth_and_0xFF, BitVec.toNat_ushiftRight, Nat.shiftRight_eq_div_pow, and_self]

/-- `dec` as a number: the 64-bit intermediate never wraps (41_rffreq.md R53, R54). -/
theorem rfDecode_toNat (bits : Word) : (rfDecode bits).toNat = 32000000 * bits.toNat / 2 ^ 25 := by
  have := bits.isLt
  have hfref : fRef.toNat = 32000000 := rfl
  have hscale : (BitVec.twoPow 64 scaleLog2).toNat = 2 ^ 25 := rfl
  rw [rfDecode, BitVec.toNat_udiv, BitVec.toNat_mul, BitVec.toNat_setWidth, hfref, hscale]
  omega

/-- Settles O45: the bytes written are those of the number from the top down, and FREQ joins them again
(`rfBitsOf_rfFreqBuf`). -/
theorem buffersAreBigEndian : Obligations.BuffersAreBigEndian := by
  refine ⟨fun s bits => ?fromBits, fun s b ticks => ⟨_, rfl, withTicks_bytes_toNat b ticks⟩,
    fun s bits b hb => ?readBack⟩
  case fromBits =>
    obtain ⟨h1, h2, h3, h4⟩ := rfFreqBuf_bytes_toNat s.cfg bits
    exact ⟨_, rfl, h1, h2, h3, h4, rfl⟩
  case readBack =>
    obtain rfl : rfFreqBuf s.cfg bits = b := Option.some.inj hb
    have hfreq : scalarOf s (.rffreqFreq (rfFreqBuf s.cfg bits)) =
        some ((rfDecode (rfBitsOf (rfFreqBuf s.cfg bits))).setWidth 32) := rfl
    rw [hfreq, rfBitsOf_rfFreqBuf, ← rfDecode_toNat, BitVec.ofNat_toNat]

end Sys2Proof.Machine
end

section
/-! PROOFS of 30_encoding.md section 1. The 40 bits of a buffer from its bytes (20_memory.md R26), then the three
layouts: RfFreq (R43), PaConfig (R44) and TcxoMode (R45). -/

namespace Sys2Proof.Machine

/-! The 40 bits of a buffer. -/

/-- A buffer on the port is its byte 0 followed by the four bytes FREQ joins (20_memory.md R26). -/
theorem toVec_eq_append_rfBitsOf (b : Buf40) : b.toVec = b.b0 ++ rfBitsOf b := by
  simp only [Buf40.toVec, rfBitsOf, BitVec.append_assoc, BitVec.cast_eq]

theorem toNat_append_eq_add {m n : Nat} (x : BitVec m) (y : BitVec n) :
    (x ++ y).toNat = x.toNat * 2 ^ n + y.toNat := by
  rw [BitVec.toNat_append, ← Nat.shiftLeft_add_eq_or_of_lt y.isLt, Nat.shiftLeft_eq]

theorem rfBitsOf_toNat (b : Buf40) : (rfBitsOf b).toNat = bigEndianValue b := by
  simp only [rfBitsOf, bigEndianValue, toNat_append_eq_add, Nat.reducePow]

theorem toVec_toNat (b : Buf40) : b.toVec.toNat = b.b0.toNat * 2 ^ 32 + bigEndianValue b := by
  rw [toVec_eq_append_rfBitsOf, toNat_append_eq_add, rfBitsOf_toNat]

theorem toVec_toNat_byte1 (b : Buf40) : b.toVec.toNat / 2 ^ 24 % 2 ^ 8 = b.b1.toNat := by
  rw [toVec_toNat, bigEndianValue]
  omega

theorem toVec_toNat_byte2 (b : Buf40) : b.toVec.toNat / 2 ^ 16 % 2 ^ 8 = b.b2.toNat := by
  rw [toVec_toNat, bigEndianValue]
  omega

theorem toVec_toNat_byte3 (b : Buf40) : b.toVec.toNat / 2 ^ 8 % 2 ^ 8 = b.b3.toNat := by
  rw [toVec_toNat, bigEndianValue]
  omega

/-! The RfFreq layout. -/

theorem rfFreqBuf_toVec (c : Config) (bits : Word) : (rfFreqBuf c bits).toVec = c.opcRffreq ++ bits := by
  rw [toVec_eq_append_rfBitsOf, rfFreqBuf_b0, rfBitsOf_rfFreqBuf]

theorem bigEndianValue_rfFreqBuf (c : Config) (bits : Word) : bigEndianValue (rfFreqBuf c bits) = bits.toNat := by
  rw [← rfBitsOf_toNat, rfBitsOf_rfFreqBuf]

theorem rfFreqBuf_toVec_toNat_mod (c : Config) (bits : Word) :
    (rfFreqBuf c bits).toVec.toNat % 2 ^ 32 = bits.toNat := by
  rw [toVec_toNat, bigEndianValue_rfFreqBuf]
  omega

/-- Settles O25: each of the five makers answers `rfFreqBuf` of a register value. -/
theorem rfFreqBuffersHaveTheLayout : Obligations.RfFreqBuffersHaveTheLayout := by
  refine fun s => ⟨fun bits => ⟨_, rfl, rfFreqBuf_toVec s.cfg bits, rfFreqBuf_toVec_toNat_mod s.cfg bits⟩,
    fun i b hmaker hb => ?_⟩
  have hregister : ∃ bits, bufferOf s i = some (rfFreqBuf s.cfg bits) := by
    obtain ⟨f, rfl⟩ | rfl | rfl | rfl := hmaker <;> exact ⟨_, rfl⟩
  obtain ⟨bits, hbits⟩ := hregister
  obtain rfl := Option.some.inj (hbits.symm.trans hb)
  exact ⟨bits, rfFreqBuf_toVec s.cfg bits, (bigEndianValue_rfFreqBuf s.cfg bits).symm⟩

/-! What a builder chain does, and what holds of every buffer it builds. -/

/-- The buffer after one PaConfig setter call (42_paconfig.md R65, R66, R67). -/
def paSet (b : Buf40) : PaSetter → Buf40
  | .dutyCycle v => { b with b1 := low3 v }
  | .hpMax v => { b with b2 := low3 v }
  | .pa p => { b with b3 := (paSelCode p).setWidth 8 }

/-- The buffer after one TcxoMode setter call (43_tcxomode.md R72, R73). -/
def tcxoSet (b : Buf40) : TcxoSetter → Buf40
  | .trim t => { b with b1 := (tcxoTrimCode t).setWidth 8 }
  | .timeout ticks => withTicks b ticks

theorem bufferOf_paSetter (s : State) (b : Buf40) (x : PaSetter) : bufferOf s (x.instr b) = some (paSet b x) := by
  cases x <;> rfl

theorem bufferOf_tcxoSetter (s : State) (b : Buf40) (x : TcxoSetter) :
    bufferOf s (x.instr b) = some (tcxoSet b x) := by
  cases x <;> rfl

theorem paChain_eq_foldl (s : State) (b : Buf40) (xs : List PaSetter) : paChain s b xs = some (xs.foldl paSet b) := by
  induction xs generalizing b with
  | nil => rfl
  | cons x rest ih => rw [paChain, bufferOf_paSetter, Option.bind_some, ih, List.foldl_cons]

theorem tcxoChain_eq_foldl (s : State) (b : Buf40) (xs : List TcxoSetter) :
    tcxoChain s b xs = some (xs.foldl tcxoSet b) := by
  induction xs generalizing b with
  | nil => rfl
  | cons x rest ih => rw [tcxoChain, bufferOf_tcxoSetter, Option.bind_some, ih, List.foldl_cons]

theorem paReachable_iff {s : State} {b : Buf40} :
    PaReachable s b ↔ ∃ xs : List PaSetter, xs.foldl paSet (paConfigDefault s.cfg) = b := by
  have hnew : bufferOf s .paconfigNew = some (paConfigDefault s.cfg) := rfl
  simp [PaReachable, hnew, paChain_eq_foldl]

theorem tcxoReachable_iff {s : State} {b : Buf40} :
    TcxoReachable s b ↔ ∃ xs : List TcxoSetter, xs.foldl tcxoSet (tcxoModeDefault s.cfg) = b := by
  have hnew : bufferOf s .tcxomodeNew = some (tcxoModeDefault s.cfg) := rfl
  simp [TcxoReachable, hnew, tcxoChain_eq_foldl]

/-- What holds of NEW's buffer and is kept by every setter holds of every PaConfig buffer built from NEW. -/
theorem PaReachable.induction {s : State} {motive : Buf40 → Prop} (hnew : motive (paConfigDefault s.cfg))
    (hset : ∀ b x, motive b → motive (paSet b x)) {b : Buf40} (hb : PaReachable s b) : motive b := by
  obtain ⟨xs, rfl⟩ := paReachable_iff.mp hb
  exact List.foldlRecOn xs paSet hnew fun b hmotive x _ => hset b x hmotive

/-- What holds of NEW's buffer and is kept by every setter holds of every TcxoMode buffer built from NEW. -/
theorem TcxoReachable.induction {s : State} {motive : Buf40 → Prop} (hnew : motive (tcxoModeDefault s.cfg))
    (hset : ∀ b x, motive b → motive (tcxoSet b x)) {b : Buf40} (hb : TcxoReachable s b) : motive b := by
  obtain ⟨xs, rfl⟩ := tcxoReachable_iff.mp hb
  exact List.foldlRecOn xs tcxoSet hnew fun b hmotive x _ => hset b x hmotive

/-! The PaConfig layout. -/

/-- The PaConfig buffer of the three fields (30_encoding.md R44). -/
def paLayout (c : Config) (d h : BitVec 3) (p : BitVec 1) : Buf40 :=
  ⟨c.opcPaconfig, 0#5 ++ d, 0#5 ++ h, 0#7 ++ p, 1#8⟩

theorem paLayout_toVec (c : Config) (d h : BitVec 3) (p : BitVec 1) :
    (paLayout c d h p).toVec = c.opcPaconfig ++ 0#5 ++ d ++ 0#5 ++ h ++ 0#7 ++ p ++ 1#8 := by
  simp only [paLayout, Buf40.toVec, BitVec.append_assoc, BitVec.cast_eq]

theorem paConfigDefault_eq_paLayout (c : Config) : paConfigDefault c = paLayout c 1 0 0 := rfl

theorem low3_eq_append (v : Byte) : low3 v = 0#5 ++ v.setWidth 3 := by
  apply BitVec.eq_of_toNat_eq
  rw [low3_toNat, toNat_append_eq_add, BitVec.toNat_setWidth]
  simp

/-- A PaConfig setter writes its own field and keeps the layout. -/
theorem paSet_paLayout (c : Config) (d h : BitVec 3) (p : BitVec 1) (x : PaSetter) :
    paSet (paLayout c d h p) x = match x with
      | .dutyCycle v => paLayout c (v.setWidth 3) h p
      | .hpMax v => paLayout c d (v.setWidth 3) p
      | .pa q => paLayout c d h (paSelCode q) := by
  cases x with
  | dutyCycle v => simp only [paSet, paLayout, low3_eq_append]
  | hpMax v => simp only [paSet, paLayout, low3_eq_append]
  | pa q => simp only [paSet, paLayout, BitVec.setWidth_eq_append (show 1 ≤ 8 by decide), BitVec.cast_eq]

theorem eq_paLayout_of_paReachable {s : State} {b : Buf40} (hb : PaReachable s b) :
    ∃ d h p, b = paLayout s.cfg d h p := by
  refine hb.induction (motive := fun b => ∃ d h p, b = paLayout s.cfg d h p) ?new ?set
  case new => exact ⟨1, 0, 0, paConfigDefault_eq_paLayout s.cfg⟩
  case set =>
    rintro _ x ⟨d, h, p, rfl⟩
    rw [paSet_paLayout]
    cases x <;> exact ⟨_, _, _, rfl⟩

theorem paSelCode_setWidth_toNat (p : PaSel) : ((paSelCode p).setWidth 8).toNat = p.toIndex.toNat := by
  cases p <;> rfl

/-- Settles O37: the layout is kept from NEW on (`eq_paLayout_of_paReachable`), and each setter's byte of the 40 bits is
the byte it wrote. -/
theorem paBuffersFromNewHaveTheLayout : Obligations.PaBuffersFromNewHaveTheLayout := by
  refine fun s => ⟨fun b hb => ?reached, ⟨_, rfl, paLayout_toVec s.cfg 1 0 0⟩, fun b b' v hb' => ?dutyCycle,
    fun b b' v hb' => ?hpMax, fun b b' p hb' => ?pa⟩
  case reached =>
    obtain ⟨d, h, p, rfl⟩ := eq_paLayout_of_paReachable hb
    exact ⟨d, h, p, paLayout_toVec s.cfg d h p⟩
  case dutyCycle =>
    obtain rfl := Option.some.inj ((bufferOf_paSetter s b (.dutyCycle v)).symm.trans hb')
    exact (toVec_toNat_byte1 _).trans (low3_toNat v)
  case hpMax =>
    obtain rfl := Option.some.inj ((bufferOf_paSetter s b (.hpMax v)).symm.trans hb')
    exact (toVec_toNat_byte2 _).trans (low3_toNat v)
  case pa =>
    obtain rfl := Option.some.inj ((bufferOf_paSetter s b (.pa p)).symm.trans hb')
    exact (toVec_toNat_byte3 _).trans (paSelCode_setWidth_toNat p)

/-! The TcxoMode layout. -/

/-- The TcxoMode buffer of the two fields (30_encoding.md R45). -/
def tcxoLayout (c : Config) (r : BitVec 3) (t : BitVec 24) : Buf40 :=
  ⟨c.opcTcxomode, 0#5 ++ r, t.extractLsb' 16 8, t.extractLsb' 8 8, t.extractLsb' 0 8⟩

theorem tcxoLayout_toVec (c : Config) (r : BitVec 3) (t : BitVec 24) :
    (tcxoLayout c r t).toVec = c.opcTcxomode ++ 0#5 ++ r ++ t := by
  have hticks : t.extractLsb' 16 8 ++ (t.extractLsb' 8 8 ++ t.extractLsb' 0 8) = t := by
    have hlow : t.extractLsb' 8 8 ++ t.extractLsb' 0 8 = t.extractLsb' 0 16 :=
      BitVec.extractLsb'_append_extractLsb'_eq_extractLsb' rfl
    have hall : t.extractLsb' 16 8 ++ t.extractLsb' 0 16 = t.extractLsb' 0 24 :=
      BitVec.extractLsb'_append_extractLsb'_eq_extractLsb' rfl
    rw [hlow, hall, BitVec.extractLsb'_eq_self]
  simp only [tcxoLayout, Buf40.toVec, BitVec.append_assoc, BitVec.cast_eq, hticks]

theorem tcxoModeDefault_eq_tcxoLayout (c : Config) : tcxoModeDefault c = tcxoLayout c 0 0 := rfl

/-- A byte given by arithmetic, as the byte at bit `k` of a 24-bit tick count. -/
theorem eq_byte_of_ticks {x : Byte} {n : Word} (k : Nat) (hk : k + 8 ≤ 24) (hx : x.toNat = n.toNat / 2 ^ k % 2 ^ 8) :
    x = (n.setWidth 24).extractLsb' k 8 := by
  apply BitVec.eq_of_toNat_eq
  rw [BitVec.extractLsb'_setWidth_of_le hk, BitVec.extractLsb'_toNat, Nat.shiftRight_eq_div_pow, hx]

/-- SET_TIMEOUT writes the bytes of the low 24 bits of its operand (43_tcxomode.md R73). -/
theorem withTicks_eq (b : Buf40) (n : Word) :
    withTicks b n = { b with
      b2 := (n.setWidth 24).extractLsb' 16 8
      b3 := (n.setWidth 24).extractLsb' 8 8
      b4 := (n.setWidth 24).extractLsb' 0 8 } := by
  obtain ⟨h2, h3, h4⟩ := withTicks_bytes_toNat b n
  rw [← eq_byte_of_ticks 16 (by decide) h2, ← eq_byte_of_ticks 8 (by decide) h3,
    ← eq_byte_of_ticks 0 (by decide) (by rwa [pow_zero, Nat.div_one])]
  rfl

/-- A TcxoMode setter writes its own field and keeps the layout. -/
theorem tcxoSet_tcxoLayout (c : Config) (r : BitVec 3) (t : BitVec 24) (x : TcxoSetter) :
    tcxoSet (tcxoLayout c r t) x = match x with
      | .trim q => tcxoLayout c (tcxoTrimCode q) t
      | .timeout n => tcxoLayout c r (n.setWidth 24) := by
  cases x with
  | trim q => simp only [tcxoSet, tcxoLayout, BitVec.setWidth_eq_append (show 3 ≤ 8 by decide), BitVec.cast_eq]
  | timeout n => simp only [tcxoSet, tcxoLayout, withTicks_eq]

theorem eq_tcxoLayout_of_tcxoReachable {s : State} {b : Buf40} (hb : TcxoReachable s b) :
    ∃ r t, b = tcxoLayout s.cfg r t := by
  refine hb.induction (motive := fun b => ∃ r t, b = tcxoLayout s.cfg r t) ?new ?set
  case new => exact ⟨0, 0, tcxoModeDefault_eq_tcxoLayout s.cfg⟩
  case set =>
    rintro _ x ⟨r, t, rfl⟩
    rw [tcxoSet_tcxoLayout]
    cases x <;> exact ⟨_, _, rfl⟩

theorem tcxoTrimCode_setWidth_toNat (t : TcxoTrim) : ((tcxoTrimCode t).setWidth 8).toNat = t.toIndex.toNat := by
  cases t <;> rfl

theorem withTicks_toVec_toNat_mod (b : Buf40) (n : Word) :
    (withTicks b n).toVec.toNat % 2 ^ 24 = n.toNat % 2 ^ 24 := by
  obtain ⟨h2, h3, h4⟩ := withTicks_bytes_toNat b n
  rw [toVec_toNat, bigEndianValue, h2, h3, h4]
  omega

/-- Settles O43: the layout is kept from NEW on (`eq_tcxoLayout_of_tcxoReachable`), and each setter's bits of the buffer
are those it wrote. -/
theorem tcxoBuffersFromNewHaveTheLayout : Obligations.TcxoBuffersFromNewHaveTheLayout := by
  refine fun s => ⟨fun b hb => ?reached, ⟨_, rfl, tcxoLayout_toVec s.cfg 0 0⟩, fun b b' n hb' => ?timeout,
    fun b b' t hb' => ?trim⟩
  case reached =>
    obtain ⟨r, t, rfl⟩ := eq_tcxoLayout_of_tcxoReachable hb
    exact ⟨r, t, tcxoLayout_toVec s.cfg r t⟩
  case timeout =>
    obtain rfl := Option.some.inj ((bufferOf_tcxoSetter s b (.timeout n)).symm.trans hb')
    exact withTicks_toVec_toNat_mod b n
  case trim =>
    obtain rfl := Option.some.inj ((bufferOf_tcxoSetter s b (.trim t)).symm.trans hb')
    exact (toVec_toNat_byte1 _).trans (tcxoTrimCode_setWidth_toNat t)

end Sys2Proof.Machine
end

section
/-! PROOFS of 41_rffreq.md. The step at a select code; the RfFreq buffer of a register value (R55); FREQ as a floor
product (R57); the AS_SLICE operations (R58, R68, R74); the presets through the floor quotient of FROM_FREQUENCY (R56,
R59 to R61). -/

namespace Sys2Proof.Machine

/-- A step at a select code executes what the decoder reads there (30_encoding.md R38). -/
theorem step_eq_exec_of_opsel {s : State} {o : Byte} {i : Instr} (hopsel : s.req.opsel = o)
    (hdecode : decode { s.req with opsel := o } = .ok i) : step s = exec i s := by
  subst hopsel
  rw [step_eq, transact, hdecode]

/-! FROM_BITS and FREQ. -/

/-- The bytes of an RfFreq buffer are the register value divided down, most significant first (41_rffreq.md R55). -/
theorem rfFreqBuf_eq_bigEndianBuf (c : Config) (bits : Word) :
    rfFreqBuf c bits = bigEndianBuf c.opcRffreq bits.toNat := by
  simp only [rfFreqBuf, bigEndianBuf, BitVec.extractLsb', Nat.shiftRight_eq_div_pow, pow_zero, Nat.div_one]

/-- Settles O20: the answer is `rfFreqBuf`, whose bytes are those of the number (`rfFreqBuf_eq_bigEndianBuf`). -/
theorem fromBitsStoresBigEndian : Obligations.FromBitsStoresBigEndian := by
  refine ⟨fun s bits => ?_, fun s hopsel => step_eq_exec_of_opsel hopsel rfl⟩
  rw [← rfFreqBuf_eq_bigEndianBuf]
  rfl

theorem bigEndianValue_lt (b : Buf40) : bigEndianValue b < 2 ^ 32 := by
  rw [← rfBitsOf_toNat]
  exact (rfBitsOf b).isLt

/-- The scalar FREQ answers, from bytes 1 to 4 (41_rffreq.md R57). -/
theorem rfDecode_rfBitsOf_setWidth (b : Buf40) :
    (rfDecode (rfBitsOf b)).setWidth 32 = BitVec.ofNat 32 (32000000 * bigEndianValue b / 2 ^ 25) := by
  rw [← rfBitsOf_toNat, ← rfDecode_toNat, BitVec.ofNat_toNat]

theorem exec_rffreqFreq (s : State) (b : Buf40) :
    exec (.rffreqFreq b) s =
      answer s ⟨.zero, BitVec.ofNat 32 (32000000 * bigEndianValue b / 2 ^ 25), false, false⟩ := by
  rw [← rfDecode_rfBitsOf_setWidth]
  rfl

/-- Settles O22: the 64-bit intermediate never wraps (`rfDecode_toNat`), and a register value is below 2^32. -/
theorem freqIsTheFloorProduct : Obligations.FreqIsTheFloorProduct := by
  refine ⟨fun s b => ⟨exec_rffreqFreq s b, ?bound⟩, fun s hopsel => step_eq_exec_of_opsel hopsel rfl⟩
  case bound =>
    have := bigEndianValue_lt b
    omega

/-! The AS_SLICE operations. -/

/-- Settles O23: each answers its operand, a buffer on the port being the bytes as sent. -/
theorem asSliceReturnsTheBufferUnchanged : Obligations.AsSliceReturnsTheBufferUnchanged :=
  ⟨fun _ _ => ⟨rfl, rfl, rfl, rfl⟩,
    fun _ => ⟨fun hrf => step_eq_exec_of_opsel hrf rfl, fun hpa => step_eq_exec_of_opsel hpa rfl,
      fun htcxo => step_eq_exec_of_opsel htcxo rfl⟩⟩

/-! FROM_FREQUENCY and the presets. -/

/-- `enc` as a number: the 64-bit intermediate never wraps (41_rffreq.md R53, R54). -/
theorem rfEncode_toNat (f : Word) : (rfEncode f).toNat = f.toNat * 2 ^ 25 / 32000000 := by
  have := f.isLt
  have hfref : fRef.toNat = 32000000 := rfl
  have hscale : (BitVec.twoPow 64 scaleLog2).toNat = 2 ^ 25 := rfl
  rw [rfEncode, BitVec.toNat_udiv, BitVec.toNat_mul, BitVec.toNat_setWidth, hfref, hscale]
  omega

/-- Below 2^32 the two values of NARROW_MODE agree (00_scope.md R6, D8). -/
theorem narrow_of_lt {q : Wide} (mode : NarrowMode) (hq : q.toNat < 2 ^ 32) : narrow mode q = q.setWidth 32 := by
  cases mode with
  | wrap => rfl
  | saturate => exact if_pos hq

/-- A frequency whose quotient is a 32-bit register value is narrowed to that value, under either NARROW_MODE. -/
theorem narrow_rfEncode_eq {f bits : Word} (mode : NarrowMode) (hquot : f.toNat * 2 ^ 25 / 32000000 = bits.toNat) :
    narrow mode (rfEncode f) = bits := by
  have hvalue : (rfEncode f).toNat = bits.toNat := (rfEncode_toNat f).trans hquot
  rw [narrow_of_lt mode (hvalue ▸ bits.isLt), ← BitVec.ofNat_toNat, hvalue, BitVec.ofNat_toNat, BitVec.setWidth_eq]

/-- FROM_FREQUENCY is FROM_BITS of the quotient when that fits 32 bits (30_encoding.md R52). -/
theorem exec_rffreqFromFrequency_eq_fromBits {f bits : Word} (s : State)
    (hquot : f.toNat * 2 ^ 25 / 32000000 = bits.toNat) :
    exec (.rffreqFromFrequency f) s = exec (.rffreqFromBits bits) s := by
  simp only [exec, execRffreqFromFrequency, execRffreqFromBits, narrow_rfEncode_eq _ hquot]

/-- FREQ of a register value's buffer is the frequency whose number is the floor product. -/
theorem scalarOf_rffreqFreq_rfFreqBuf {bits hz : Word} (s : State)
    (hproduct : 32000000 * bits.toNat / 2 ^ 25 = hz.toNat) :
    scalarOf s (.rffreqFreq (rfFreqBuf s.cfg bits)) = some hz := by
  simp only [scalarOf, exec_rffreqFreq, answer, State.answer_rsp, bigEndianValue_rfFreqBuf, hproduct,
    BitVec.ofNat_toNat, BitVec.setWidth_eq]

/-- Settles O24: the register value of each preset is the floor quotient of its frequency, and the floor product of the
value is the frequency again. -/
theorem presetsAreTheirFrequencies : Obligations.PresetsAreTheirFrequencies := by
  refine ⟨fun s => ⟨rfl, rfl, rfl, ?encode433, ?encode868, ?encode915, ?decode433, ?decode868, ?decode915⟩,
    fun s => ⟨fun h433 => step_eq_exec_of_opsel h433 rfl, fun h868 => step_eq_exec_of_opsel h868 rfl,
      fun h915 => step_eq_exec_of_opsel h915 rfl⟩⟩
  case encode433 => exact (exec_rffreqFromFrequency_eq_fromBits (bits := f433Bits) s rfl).symm
  case encode868 => exact (exec_rffreqFromFrequency_eq_fromBits (bits := f868Bits) s rfl).symm
  case encode915 => exact (exec_rffreqFromFrequency_eq_fromBits (bits := f915Bits) s rfl).symm
  case decode433 => exact scalarOf_rffreqFreq_rfFreqBuf (bits := f433Bits) s rfl
  case decode868 => exact scalarOf_rffreqFreq_rfFreqBuf (bits := f868Bits) s rfl
  case decode915 => exact scalarOf_rffreqFreq_rfFreqBuf (bits := f915Bits) s rfl

end Sys2Proof.Machine
end

section
/-! PROOFS of 42_paconfig.md. The default buffer of NEW (R64) and the byte SET_PA_DUTY_CYCLE writes (R65). -/

namespace Sys2Proof.Machine

/-- Settles O32: the answer is PACONFIG_DEFAULT, whatever the request port holds. -/
theorem paConfigNewIsTheDefault : Obligations.PaConfigNewIsTheDefault :=
  ⟨fun _ => rfl, fun _ hopsel => step_eq_exec_of_opsel hopsel rfl⟩

/-- The mask `v & 0b111` by arithmetic (42_paconfig.md R65, R66). -/
theorem low3_eq_ofNat (v : Byte) : low3 v = BitVec.ofNat 8 (v.toNat % 8) := by
  rw [← low3_toNat, BitVec.ofNat_toNat, BitVec.setWidth_eq]

/-- Settles O33: the byte written is the operand's low three bits as a number (`low3_eq_ofNat`), and the decoder takes
the operand from the low byte of `arg`. -/
theorem setPaDutyCycleMasksToThreeBits : Obligations.SetPaDutyCycleMasksToThreeBits := by
  refine ⟨fun s b v => ?_, fun s hopsel => step_eq_exec_of_opsel hopsel rfl⟩
  rw [← low3_eq_ofNat]
  rfl

end Sys2Proof.Machine
end

section
/-! PROOFS of 43_tcxomode.md. The default buffer of NEW (R71) and the bytes SET_TIMEOUT writes (R73). -/

namespace Sys2Proof.Machine

/-- Settles O39: the answer is TCXOMODE_DEFAULT, whatever the request port holds, and its trim byte is the code of the
variant of index 0. -/
theorem tcxoModeNewIsTheDefault : Obligations.TcxoModeNewIsTheDefault :=
  ⟨fun _ => rfl, fun _ hopsel => step_eq_exec_of_opsel hopsel rfl, fun _ => rfl⟩

/-- The shifts and masks of SET_TIMEOUT by arithmetic (43_tcxomode.md R73). -/
theorem withTicks_eq_ofNat (b : Buf40) (ticks : Word) :
    withTicks b ticks = { b with
      b2 := BitVec.ofNat 8 (ticks.toNat / 65536 % 256)
      b3 := BitVec.ofNat 8 (ticks.toNat / 256 % 256)
      b4 := BitVec.ofNat 8 (ticks.toNat % 256) } := by
  obtain ⟨h2, h3, h4⟩ := withTicks_bytes_toNat b ticks
  norm_num only at h2 h3 h4
  rw [← h2, ← h3, ← h4]
  simp only [BitVec.ofNat_toNat, BitVec.setWidth_eq]
  rfl

/-- Settles O41: the bytes written are the three low bytes of the number `ticks` (`withTicks_eq_ofNat`), and the decoder
takes the whole of `arg`. -/
theorem setTimeoutKeepsTheLow24Bits : Obligations.SetTimeoutKeepsTheLow24Bits := by
  refine ⟨fun s b ticks => ?_, fun s hopsel => step_eq_exec_of_opsel hopsel rfl⟩
  rw [← withTicks_eq_ofNat]
  rfl

end Sys2Proof.Machine
end

section
/-! PROOFS of 44_enumerations.md. The codes the spec fixes: PacketType (R78), PaSel (R79) and TcxoTrim (R83). -/

namespace Sys2Proof.Machine

/-! Each of the three BITS operations answers the variant's index. -/

theorem exec_packettypeBits (s : State) (p : PacketType) : exec (.packettypeBits p) s = answerRes s p.toIndex := by
  cases p <;> rfl

theorem exec_paselBits (s : State) (p : PaSel) : exec (.paselBits p) s = answerRes s p.toIndex := by
  cases p <;> rfl

theorem exec_tcxotrimBits (s : State) (t : TcxoTrim) : exec (.tcxotrimBits t) s = answerRes s t.toIndex := by
  cases t <;> rfl

/-- The scalar answer as a whole response, its result given by number (30_encoding.md R41). -/
theorem answerRes_eq {n : Nat} (s : State) (v : BitVec n) :
    answerRes s v = .next { s with rsp := ⟨.zero, BitVec.ofNat 32 v.toNat, false, false⟩ } := by
  rw [BitVec.ofNat_toNat]
  rfl

theorem scalarOf_of_exec_eq_answerRes {n : Nat} {s : State} {i : Instr} {v : BitVec n}
    (hexec : exec i s = answerRes s v) : scalarOf s i = some (v.setWidth 32) := by
  rw [scalarOf, hexec]
  rfl

/-- FROM_BITS accepts every variant's code and answers its index (44_enumerations.md R77). -/
theorem exec_packettypeFromBits_packetTypeCode (s : State) (p : PacketType) :
    exec (.packettypeFromBits (packetTypeCode p)) s = answerRes s p.toIndex := by
  have haccept : packetTypeOfCode (packetTypeCode p) = some p := packetTypeOfCode_some_iff.mpr rfl
  simp only [exec, execPackettypeFromBits, haccept]

/-- The low byte of the scalar PACKETTYPE.BITS answers is the code. -/
theorem ofNat_toIndex_setWidth (p : PacketType) :
    BitVec.ofNat 8 (p.toIndex.setWidth 32).toNat = packetTypeCode p := by
  cases p <;> rfl

/-- Settles O47: each BITS answers the index, FROM_BITS takes the code back to it, and SET_TCXO_TRIM writes it as
byte 1. -/
theorem codesOfTheFixedEnumerationsAreTheirIndices : Obligations.CodesOfTheFixedEnumerationsAreTheirIndices := by
  refine ⟨fun s i => ?packetType, fun s i => ?paSel, fun s i => ?tcxoTrim,
    fun s => ⟨fun hpacket => step_eq_exec_of_opsel hpacket rfl, fun hpa => step_eq_exec_of_opsel hpa rfl,
      fun htrim => step_eq_exec_of_opsel htrim rfl⟩,
    fun s t p c hc ht => ?inverse, fun s b b' t c hc hb' => ?setTrim⟩
  case packetType =>
    rw [exec_packettypeBits, PacketType.toIndex_ofIndex]
    exact answerRes_eq s i
  case paSel =>
    rw [exec_paselBits, PaSel.toIndex_ofIndex]
    exact answerRes_eq s i
  case tcxoTrim =>
    rw [exec_tcxotrimBits, TcxoTrim.toIndex_ofIndex]
    exact answerRes_eq s i
  case inverse =>
    obtain rfl := Option.some.inj ((scalarOf_of_exec_eq_answerRes (exec_packettypeBits s p)).symm.trans hc)
    rw [ofNat_toIndex_setWidth, exec_packettypeFromBits_packetTypeCode] at ht
    obtain rfl := answerRes_next_iff.mp ht
    exact ⟨rfl, BitVec.toNat_setWidth_of_le (by decide)⟩
  case setTrim =>
    obtain rfl := Option.some.inj ((scalarOf_of_exec_eq_answerRes (exec_tcxotrimBits s t)).symm.trans hc)
    obtain rfl := Option.some.inj ((bufferOf_tcxoSetter s b (.trim t)).symm.trans hb')
    rw [BitVec.toNat_setWidth_of_le (by decide)]
    exact tcxoTrimCode_setWidth_toNat t

end Sys2Proof.Machine
end

section
/-! PROOFS of 60_exceptions.md. The one failure of the block, an unrecognised packet-type code (R87), and the response
that reports it (R88). -/

namespace Sys2Proof.Machine

/-- FROM_BITS sets `rsp.err` exactly on a byte that is no code (60_exceptions.md R88). -/
theorem err_of_exec_packettypeFromBits_iff {s t : State} {raw : Byte}
    (hexec : exec (.packettypeFromBits raw) s = .next t) : t.rsp.err = true ↔ 4 ≤ raw.toNat := by
  rw [← packetTypeOfCode_none_iff]
  simp only [exec, execPackettypeFromBits] at hexec
  cases hcode : packetTypeOfCode raw with
  | some p =>
    rw [hcode] at hexec
    obtain rfl := answerRes_next_iff.mp hexec
    simp
  | none =>
    rw [hcode] at hexec
    obtain rfl := answer_next_iff.mp hexec
    simp

/-- A step at select code 0x40 fails exactly when `arg[7:0]` is 4 or more (60_exceptions.md R88). -/
theorem err_of_step_packettypeFromBits_iff {s t : State} (hopsel : s.req.opsel = 0x40) (hstep : step s = .next t) :
    t.rsp.err = true ↔ 4 ≤ s.req.arg.toNat % 256 := by
  have hrun : exec (.packettypeFromBits (s.req.arg.extractLsb' 0 8)) s = .next t :=
    (step_eq_exec_of_opsel hopsel rfl).symm.trans hstep
  rw [err_of_exec_packettypeFromBits_iff hrun, BitVec.extractLsb'_toNat, Nat.shiftRight_zero]

/-- The rejection as a whole response, the original byte given by number (60_exceptions.md R87, R88). -/
theorem rejectedResponse_eq (arg : Word) :
    rejectedResponse (arg.extractLsb' 0 8) = ⟨.zero, BitVec.ofNat 32 (arg.toNat % 256), true, false⟩ := by
  rw [← rejectedResponse_res_toNat, BitVec.ofNat_toNat, BitVec.setWidth_eq]
  rfl

/-- Settles O9: a failing step is FROM_BITS' rejection (`step_answers`), and that operation rejects exactly the bytes
from 4 up (`err_of_step_packettypeFromBits_iff`). -/
theorem onlyUnrecognisedPacketTypeFails : Obligations.OnlyUnrecognisedPacketTypeFails := by
  intro s t hstep
  have hfail : t.rsp.err = true → s.req.opsel = 0x40 ∧ t.rsp = rejectedResponse (s.req.arg.extractLsb' 0 8) := by
    obtain ⟨r, hanswer, hreject⟩ := step_answers s
    obtain rfl := answer_next_iff.mp (hanswer.symm.trans hstep)
    exact hreject
  refine ⟨⟨fun herr => ?_, fun ⟨hopsel, hbyte⟩ => ?_⟩, fun herr => ?_⟩
  · obtain ⟨hopsel, -⟩ := hfail herr
    exact ⟨hopsel, (err_of_step_packettypeFromBits_iff hopsel hstep).mp herr⟩
  · exact (err_of_step_packettypeFromBits_iff hopsel hstep).mpr hbyte
  · obtain ⟨-, hrsp⟩ := hfail herr
    exact hrsp.trans (rejectedResponse_eq s.req.arg)

end Sys2Proof.Machine
end

section
/-! PROOFS of 30_encoding.md sections 1 and 2. The decoder reads back what the encoder wrote: operand assembly of a
request (R39), then the three buffer layouts (R43 to R45), told apart by byte 0 (R115). -/

namespace Sys2Proof

open Sys2Proof.Machine
open Sys2Proof.Laws.EncodedSelect (select)

/-! Requests. -/

/-- A request word decodes to what its fields decode to (R37). -/
theorem decodeCode_reqCode (c : Config) (o : Byte) (b : Buf40) (a : Word) :
    decodeCode c (reqCode o b a) = decode ⟨o, b, a⟩ := by
  rw [reqCode, decodeCode, Request.ofWord_toWord]

/-- An operand written zero-extended into `arg` is the low bits of `arg` (R39). -/
theorem extractLsb'_zero_setWidth {n : Nat} (v : BitVec n) (hn : n ≤ 32) :
    (v.setWidth 32).extractLsb' 0 n = v := by
  rw [BitVec.extractLsb'_setWidth_of_le (by omega), BitVec.extractLsb'_eq_self]

/-- PASEL.CMP's operands are `arg[0]` and `arg[8]` (R39). -/
theorem extractLsb'_cmp_operands (a b : BitVec 1) :
    (0#23 ++ b ++ 0#7 ++ a : BitVec 32).extractLsb' 0 1 = a ∧
    (0#23 ++ b ++ 0#7 ++ a : BitVec 32).extractLsb' 8 1 = b := by
  decide +revert

/-- Every operation is read back from its request word. -/
theorem decodeCode_encode_of_operation (c : Config) {i : Instr} (hop : (select i).isSome) :
    decodeCode c (encode i) = .ok i := by
  cases i with
  | bufferRffreq | bufferPaconfig | bufferTcxomode => cases hop
  | paconfigSetPaDutyCycle | paconfigSetHpMax | paconfigSetPa | tcxomodeSetTcxoTrim | packettypeFromBits
  | packettypeBits | paselBits | regmodeBits | ocpBits | tcxotrimBits | tcxotrimAsMillivolts =>
    simp [encode, decodeCode_reqCode, decode, extractLsb'_zero_setWidth]
  | paselCmp a b =>
    obtain ⟨ha, hb⟩ := extractLsb'_cmp_operands a.toIndex b.toIndex
    simp [encode, decodeCode_reqCode, decode, ha, hb]
  | _ => exact decodeCode_reqCode c _ _ _

/-! Layouts, read off the bytes of the buffer. -/

/-- Bits inside a field that is itself a slice. -/
theorem extractLsb'_extractLsb'_eq {w k n i m : Nat} (v : BitVec w) (h : i + m ≤ n) :
    (v.extractLsb' k n).extractLsb' i m = v.extractLsb' (k + i) m := by
  apply BitVec.eq_of_getLsbD_eq
  intro j hj
  simp only [BitVec.getLsbD_extractLsb', hj, show i + j < n by omega, decide_true, Bool.true_and, Nat.add_assoc]

/-! Byte `i` of a buffer on the 40-bit port is `buf[39-8i : 32-8i]` (20_memory.md R26). -/

theorem extractLsb'_toVec_b0 (b : Buf40) : b.toVec.extractLsb' 32 8 = b.b0 := congrArg Buf40.b0 (Buf40.ofVec_toVec b)
theorem extractLsb'_toVec_b1 (b : Buf40) : b.toVec.extractLsb' 24 8 = b.b1 := congrArg Buf40.b1 (Buf40.ofVec_toVec b)
theorem extractLsb'_toVec_b2 (b : Buf40) : b.toVec.extractLsb' 16 8 = b.b2 := congrArg Buf40.b2 (Buf40.ofVec_toVec b)
theorem extractLsb'_toVec_b3 (b : Buf40) : b.toVec.extractLsb' 8 8 = b.b3 := congrArg Buf40.b3 (Buf40.ofVec_toVec b)
theorem extractLsb'_toVec_b4 (b : Buf40) : b.toVec.extractLsb' 0 8 = b.b4 := congrArg Buf40.b4 (Buf40.ofVec_toVec b)

theorem extractLsb'_toVec_in_b1 (b : Buf40) {i m : Nat} (h : i + m ≤ 8) :
    b.toVec.extractLsb' (24 + i) m = b.b1.extractLsb' i m := by
  rw [← extractLsb'_toVec_b1, extractLsb'_extractLsb'_eq _ h]

theorem extractLsb'_toVec_in_b2 (b : Buf40) {i m : Nat} (h : i + m ≤ 8) :
    b.toVec.extractLsb' (16 + i) m = b.b2.extractLsb' i m := by
  rw [← extractLsb'_toVec_b2, extractLsb'_extractLsb'_eq _ h]

theorem extractLsb'_toVec_in_b3 (b : Buf40) {i m : Nat} (h : i + m ≤ 8) :
    b.toVec.extractLsb' (8 + i) m = b.b3.extractLsb' i m := by
  rw [← extractLsb'_toVec_b3, extractLsb'_extractLsb'_eq _ h]

/-- No layout is read from a buffer whose byte 0 is not its opcode (30_encoding.md R42). -/
theorem layoutRffreq_eq_none {c : Config} {b : Buf40} (h : b.b0 ≠ c.opcRffreq) : layoutRffreq c b.toVec = none := by
  simp [layoutRffreq, extractLsb'_toVec_b0, h]

theorem layoutPaconfig_eq_none {c : Config} {b : Buf40} (h : b.b0 ≠ c.opcPaconfig) :
    layoutPaconfig c b.toVec = none := by
  simp [layoutPaconfig, extractLsb'_toVec_b0, h]

/-- The RfFreq layout of a register value's buffer (30_encoding.md R43). -/
theorem layoutRffreq_rfFreqBuf (c : Config) (bits : Word) :
    layoutRffreq c (rfFreqBuf c bits).toVec = some (.bufferRffreq c.opcRffreq bits) := by
  have hbits : (rfFreqBuf c bits).toVec.extractLsb' 0 32 = bits := by
    rw [rfFreqBuf_toVec]
    exact BitVec.extractLsb'_append_eq_right
  rw [layoutRffreq, extractLsb'_toVec_b0, hbits, rfFreqBuf_b0, if_pos rfl]

/-- The PaConfig layout of the buffer of its fields (30_encoding.md R44). -/
theorem layoutPaconfig_paLayout (c : Config) (d h : BitVec 3) (pa : PaSel) :
    layoutPaconfig c (paLayout c d h pa.toIndex).toVec = some (.bufferPaconfig c.opcPaconfig d h pa 1#8) := by
  have hd : (paLayout c d h pa.toIndex).toVec.extractLsb' 24 3 = d :=
    (extractLsb'_toVec_in_b1 _ (i := 0) (by decide)).trans BitVec.extractLsb'_append_eq_right
  have hd' : (paLayout c d h pa.toIndex).toVec.extractLsb' 27 5 = 0#5 :=
    (extractLsb'_toVec_in_b1 _ (i := 3) (by decide)).trans BitVec.extractLsb'_append_eq_left
  have hh : (paLayout c d h pa.toIndex).toVec.extractLsb' 16 3 = h :=
    (extractLsb'_toVec_in_b2 _ (i := 0) (by decide)).trans BitVec.extractLsb'_append_eq_right
  have hh' : (paLayout c d h pa.toIndex).toVec.extractLsb' 19 5 = 0#5 :=
    (extractLsb'_toVec_in_b2 _ (i := 3) (by decide)).trans BitVec.extractLsb'_append_eq_left
  have hp : (paLayout c d h pa.toIndex).toVec.extractLsb' 8 1 = pa.toIndex :=
    (extractLsb'_toVec_in_b3 _ (i := 0) (by decide)).trans BitVec.extractLsb'_append_eq_right
  have hp' : (paLayout c d h pa.toIndex).toVec.extractLsb' 9 7 = 0#7 :=
    (extractLsb'_toVec_in_b3 _ (i := 1) (by decide)).trans BitVec.extractLsb'_append_eq_left
  rw [layoutPaconfig, extractLsb'_toVec_b0, extractLsb'_toVec_b4, hd, hd', hh, hh', hp, hp', PaSel.ofIndex_toIndex]
  exact if_pos ⟨rfl, rfl, rfl, rfl, rfl⟩

/-- The TcxoMode layout of the buffer of its fields (30_encoding.md R45). -/
theorem layoutTcxomode_tcxoLayout (c : Config) (trim : TcxoTrim) (ticks : BitVec 24) :
    layoutTcxomode c (tcxoLayout c trim.toIndex ticks).toVec = some (.bufferTcxomode c.opcTcxomode trim ticks) := by
  have hr : (tcxoLayout c trim.toIndex ticks).toVec.extractLsb' 24 3 = trim.toIndex :=
    (extractLsb'_toVec_in_b1 _ (i := 0) (by decide)).trans BitVec.extractLsb'_append_eq_right
  have hr' : (tcxoLayout c trim.toIndex ticks).toVec.extractLsb' 27 5 = 0#5 :=
    (extractLsb'_toVec_in_b1 _ (i := 3) (by decide)).trans BitVec.extractLsb'_append_eq_left
  have ht : (tcxoLayout c trim.toIndex ticks).toVec.extractLsb' 0 24 = ticks := by
    rw [tcxoLayout_toVec]
    exact BitVec.extractLsb'_append_eq_right
  rw [layoutTcxomode, extractLsb'_toVec_b0, hr, hr', ht, TcxoTrim.ofIndex_toIndex]
  exact if_pos ⟨rfl, rfl⟩

/-- Settles O1: an operation is read back from its request word (`decodeCode_encode_of_operation`); a layout is read
back from its own buffer, and the layouts tried before it have another byte 0. -/
theorem decodeInvertsEncode : Obligations.DecodeInvertsEncode := by
  intro c i ⟨hRfPa, hRfTcxo, hPaTcxo⟩ hwf
  cases i with
  | bufferRffreq opcode bits =>
    obtain rfl : opcode = c.opcRffreq := of_decide_eq_true hwf
    rw [encode, decodeCode, ← rfFreqBuf_toVec, decodeLayout, layoutRffreq_rfFreqBuf]
  | bufferPaconfig opcode d h pa reserved =>
    obtain ⟨rfl, rfl⟩ : opcode = c.opcPaconfig ∧ reserved = 1#8 := of_decide_eq_true hwf
    have hrf : layoutRffreq c (paLayout c d h pa.toIndex).toVec = none := layoutRffreq_eq_none hRfPa.symm
    rw [encode, decodeCode, ← paLayout_toVec, decodeLayout, hrf, layoutPaconfig_paLayout]
  | bufferTcxomode opcode trim ticks =>
    obtain rfl : opcode = c.opcTcxomode := of_decide_eq_true hwf
    have hrf : layoutRffreq c (tcxoLayout c trim.toIndex ticks).toVec = none := layoutRffreq_eq_none hRfTcxo.symm
    have hpa : layoutPaconfig c (tcxoLayout c trim.toIndex ticks).toVec = none := layoutPaconfig_eq_none hPaTcxo.symm
    rw [encode, decodeCode, ← tcxoLayout_toVec, decodeLayout, hrf, hpa, layoutTcxomode_tcxoLayout]
  | _ => exact decodeCode_encode_of_operation c rfl

end Sys2Proof
end

section
/-! PROOFS of 10_state.md and 60_exceptions.md section 2. What a response looks like (R92), what a step keeps (R18, R21)
and what it depends on (R9, R13). -/

namespace Sys2Proof.Machine

/-! Lawful responses. -/

theorem bufResponse_lawful (b : Buf40) : (bufResponse b).Lawful := by
  simp [Response.Lawful]

/-- A scalar response is lawful when its scalar is in FREQ's range (41_rffreq.md R57). -/
theorem resResponse_lawful {n : Nat} {v : BitVec n} (hv : (v.setWidth 32).toNat ≤ 4095999999) :
    (resResponse v).Lawful := by
  simpa [Response.Lawful] using hv

theorem rejectedResponse_lawful {raw : Byte} (hraw : 4 ≤ raw.toNat) : (rejectedResponse raw).Lawful := by
  have := raw.isLt
  have hres : (raw.setWidth 32).toNat = raw.toNat := BitVec.toNat_setWidth_of_le (by decide)
  simp only [Response.Lawful, rejectedResponse_bufOut, rejectedResponse_res, rejectedResponse_err,
    rejectedResponse_ill, hres]
  exact ⟨by simp, by simp, fun _ => ⟨trivial, hraw, by omega⟩, by simp, by omega⟩

theorem reservedResponse_lawful : reservedResponse.Lawful := by
  simp [Response.Lawful]

/-- A code, an index or a millivolt value is in FREQ's range. -/
theorem toNat_setWidth_le_of_short {n : Nat} (v : BitVec n) (hn : n ≤ 16) : (v.setWidth 32).toNat ≤ 4095999999 := by
  have hlt : v.toNat < 2 ^ 16 := v.isLt.trans_le (Nat.pow_le_pow_right (by decide) hn)
  rw [BitVec.toNat_setWidth_of_le (by omega)]
  omega

/-- The exact range of `dec` (41_rffreq.md R53). -/
theorem rfDecode_toNat_le (bits : Word) : (rfDecode bits).toNat ≤ 4095999999 := by
  have := bits.isLt
  rw [rfDecode_toNat]
  omega

theorem rfDecode_setWidth_toNat_le (bits : Word) : ((rfDecode bits).setWidth 32).toNat ≤ 4095999999 := by
  rw [BitVec.toNat_setWidth]
  exact (Nat.mod_le _ _).trans (rfDecode_toNat_le bits)

/-- Whatever an instruction answers is a lawful response. -/
theorem rsp_lawful_of_exec {i : Instr} {s t : State} (hexec : exec i s = .next t) : t.rsp.Lawful := by
  cases i with
  | bufferRffreq | bufferPaconfig | bufferTcxomode => cases hexec
  | packettypeFromBits raw =>
    obtain ⟨p, _, haccept⟩ | ⟨hraw, hreject⟩ := execPackettypeFromBits_cases raw s
    · obtain rfl := answerRes_next_iff.mp (haccept.symm.trans hexec)
      exact resResponse_lawful (toNat_setWidth_le_of_short _ (by decide))
    · obtain rfl := answer_next_iff.mp (hreject.symm.trans hexec)
      exact rejectedResponse_lawful hraw
  | rffreqFreq buf =>
    obtain rfl := answerRes_next_iff.mp hexec
    exact resResponse_lawful (rfDecode_setWidth_toNat_le _)
  | packettypeBits | paselBits | paselCmp | regmodeBits | ocpBits | tcxotrimBits | tcxotrimAsMillivolts =>
    obtain rfl := answerRes_next_iff.mp hexec
    exact resResponse_lawful (toNat_setWidth_le_of_short _ (by decide))
  | _ =>
    obtain rfl := answerBuf_next_iff.mp hexec
    exact bufResponse_lawful _

/-! What a step keeps and leaves. -/

/-- An instruction that answers changes the response port only (10_state.md R18, R21), and does not report a reserved
select (60_exceptions.md R88). -/
theorem eq_answer_of_exec {i : Instr} {s t : State} (hexec : exec i s = .next t) :
    t = s.answer t.rsp ∧ t.rsp.ill = false := by
  obtain ⟨b, hbuf⟩ | ⟨_, v, hres⟩ | ⟨raw, _, _, hreject⟩ | ⟨_, _, hrefused⟩ := exec_cases i s
  · obtain rfl := answerBuf_next_iff.mp (hbuf.symm.trans hexec)
    exact ⟨rfl, rfl⟩
  · obtain rfl := answerRes_next_iff.mp (hres.symm.trans hexec)
    exact ⟨rfl, rfl⟩
  · obtain rfl := answer_next_iff.mp (hreject.symm.trans hexec)
    exact ⟨rfl, rfl⟩
  · cases hrefused.symm.trans hexec

/-- A step changes the response port only (10_state.md R18, R21). -/
theorem eq_answer_of_step {s t : State} (hstep : step s = .next t) : t = s.answer t.rsp := by
  obtain ⟨r, hanswer, -⟩ := step_answers s
  obtain rfl := answer_next_iff.mp (hanswer.symm.trans hstep)
  rfl

theorem req_of_step {s t : State} (hstep : step s = .next t) : t.req = s.req := by
  rw [eq_answer_of_step hstep, State.answer_req]

theorem cfg_of_step {s t : State} (hstep : step s = .next t) : t.cfg = s.cfg := by
  rw [eq_answer_of_step hstep, State.answer_cfg]

/-- Settles O13: a step leaves the constants (`cfg_of_step`), and both an operation's answer
(`rsp_lawful_of_exec`) and the reserved answer are lawful. -/
theorem stepKeepsInvariant : Obligations.StepKeepsInvariant := by
  intro s t ⟨hcfg, _⟩ hstep
  refine ⟨(cfg_of_step hstep).symm ▸ hcfg, ?_⟩
  obtain ⟨i, _, hrun⟩ | ⟨_, _, hreserved⟩ := transact_cases s
  · exact rsp_lawful_of_exec (hrun.symm.trans hstep)
  · obtain rfl := answer_next_iff.mp (hreserved.symm.trans hstep)
    exact reservedResponse_lawful

/-- Settles O14: the default constants are well formed, and the response at reset is the reserved one. -/
theorem resetMeetsInvariant : Obligations.ResetMeetsInvariant :=
  ⟨by decide, reservedResponse_lawful⟩

/-- Settles O10: an instruction that answers does no more than answer (`eq_answer_of_exec`). -/
theorem execChangesTheResponseOnly : Obligations.ExecChangesTheResponseOnly := by
  intro i s t hexec
  obtain ⟨hanswer, -⟩ := eq_answer_of_exec hexec
  rw [hanswer]
  exact ⟨State.answer_req s t.rsp, State.answer_cfg s t.rsp⟩

/-- Settles O16: the state after a step differs in its response port only (`eq_answer_of_step`), so the next step gives
the same response (`step_congr`) to the port that holds it already. -/
theorem repeatedStepChangesNothing : Obligations.RepeatedStepChangesNothing := by
  intro s t hstep
  have hdecode : decode s.req = decode t.req := by rw [req_of_step hstep]
  obtain ⟨r, hfirst, hagain⟩ := step_congr (cfg_of_step hstep).symm hdecode
  have hsame : t = s.answer r := answer_next_iff.mp (hfirst.symm.trans hstep)
  rw [hagain, answer_next_iff, hsame, State.answer_answer]

/-- Settles O15: the request at reset selects nothing, and the response at reset is the reserved one. -/
theorem resetIsSettled : Obligations.ResetIsSettled := rfl

end Sys2Proof.Machine
end

section
/-! PROOFS of 30_encoding.md. Select codes (R38) and reserved ones (R48), the bits an operation reads (R38, R39), the
response fields it produces (R41), the packed words (R37); then the opening: the layout rows are no operations. -/

namespace Sys2Proof.Machine

open Sys2Proof.Laws.EncodedSelect (select)

/-! Select codes. -/

/-- A select code outside the reserved ranges is in the operation map (R38, R48). -/
theorem mem_operationMap_of_not_reserved {o : Byte} (h : reservedSelect o = false) :
    o ∈ [0x10#8, 0x11, 0x12, 0x13, 0x14, 0x15, 0x16, 0x20, 0x21, 0x22, 0x23, 0x24, 0x30, 0x31, 0x32, 0x33, 0x40, 0x41,
      0x42, 0x43, 0x44, 0x45, 0x46, 0x47] := by
  simp only [reservedSelect, decide_eq_false_iff_not] at h
  simp only [List.mem_cons, List.not_mem_nil, or_false, ← BitVec.toNat_inj, BitVec.ofNat_eq_ofNat, BitVec.toNat_ofNat,
    Nat.reducePow, Nat.reduceMod]
  omega

theorem decode_of_reserved {q : Request} (h : reservedSelect q.opsel = true) :
    decode q = .error (.reservedSelect q.opsel) := by
  unfold decode
  split
  case h_25 => rfl
  all_goals
    rename_i hopsel
    rw [hopsel] at h
    exact absurd h (by decide)

theorem decode_of_not_reserved {q : Request} (h : reservedSelect q.opsel = false) : ∃ i, decode q = .ok i := by
  have hmem := mem_operationMap_of_not_reserved h
  unfold decode
  split
  case h_25 => simp_all
  all_goals exact ⟨_, rfl⟩

/-- A step on a select code of the operation map executes an instruction of that code. -/
theorem exec_of_step {s t : State} (h : reservedSelect s.req.opsel = false) (hstep : step s = .next t) :
    ∃ i, select i = some s.req.opsel ∧ exec i s = .next t := by
  obtain ⟨i, hdecode⟩ := decode_of_not_reserved h
  refine ⟨i, select_of_decode_ok hdecode, ?_⟩
  rwa [step_eq, transact, hdecode] at hstep

/-- Settles O3: the decoder rejects exactly the reserved select codes (`decode_of_reserved`, `decode_of_not_reserved`),
and no operation answers `ill` = 1 (`eq_answer_of_exec`). -/
theorem reservedSelectsAnswerIll : Obligations.ReservedSelectsAnswerIll := by
  refine fun s => ⟨fun hreserved => ?reserved, fun hmapped => ?mapped⟩
  case reserved =>
    have hdecode := decode_of_reserved hreserved
    refine ⟨hdecode, ?_⟩
    rw [step_eq, transact, hdecode]
    rfl
  case mapped =>
    obtain ⟨r, hstep, -⟩ := step_answers s
    obtain ⟨i, -, hexec⟩ := exec_of_step hmapped hstep
    obtain ⟨-, hill⟩ := eq_answer_of_exec hexec
    exact ⟨decode_of_not_reserved hmapped, _, hstep, hill⟩

/-! The bits an operation reads. -/

/-- A field of `arg` inside the mask is the same in two words that agree under the mask. -/
theorem extractLsb'_eq_of_and_eq {a a' m : Word} {k n : Nat} (h : a &&& m = a' &&& m)
    (hfield : m.extractLsb' k n = BitVec.allOnes n) : a.extractLsb' k n = a'.extractLsb' k n := by
  have hslice := congrArg (BitVec.extractLsb' k n) h
  rwa [BitVec.extractLsb'_and, BitVec.extractLsb'_and, hfield, BitVec.and_allOnes, BitVec.and_allOnes] at hslice

/-- The decoder reads `arg` inside the mask of the select code only (R38, R39). -/
theorem decode_of_and_argMask_eq {q : Request} {a : Word} (h : a &&& argMask q.opsel = q.arg &&& argMask q.opsel) :
    decode { q with arg := a } = decode q := by
  simp only [decode]
  split
  case h_1 ho | h_2 ho | h_15 ho =>
    rw [ho] at h
    have hall := extractLsb'_eq_of_and_eq (k := 0) (n := 32) h rfl
    rw [BitVec.extractLsb'_eq_self, BitVec.extractLsb'_eq_self] at hall
    rw [hall]
  case h_9 ho | h_10 ho | h_17 ho =>
    rw [ho] at h
    rw [extractLsb'_eq_of_and_eq (k := 0) (n := 8) h rfl]
  case h_14 ho | h_23 ho | h_24 ho =>
    rw [ho] at h
    rw [extractLsb'_eq_of_and_eq (k := 0) (n := 3) h rfl]
  case h_18 ho =>
    rw [ho] at h
    rw [extractLsb'_eq_of_and_eq (k := 0) (n := 2) h rfl]
  case h_11 ho | h_19 ho | h_21 ho | h_22 ho =>
    rw [ho] at h
    rw [extractLsb'_eq_of_and_eq (k := 0) (n := 1) h rfl]
  case h_20 ho =>
    rw [ho] at h
    rw [extractLsb'_eq_of_and_eq (k := 0) (n := 1) h rfl, extractLsb'_eq_of_and_eq (k := 8) (n := 1) h rfl]
  all_goals rfl

/-- Settles O4: `arg` is read inside the mask only (`decode_of_and_argMask_eq`), and an unused `buf_in` not at all
(`decode_of_not_usesBuf`). -/
theorem decodeIgnoresUnusedBits : Obligations.DecodeIgnoresUnusedBits := by
  intro q b a hbuf harg
  have hinBuf : decode { q with bufIn := b } = decode q := by
    cases huses : usesBuf q.opsel with
    | true => rw [hbuf huses]
    | false => exact decode_of_not_usesBuf b huses
  exact (decode_of_and_argMask_eq (q := { q with bufIn := b }) harg).trans hinBuf

/-- Settles O17: the two requests decode alike (`decodeIgnoresUnusedBits`), and a response is a function of the
constants and the decoded request (`responseOf_congr`). -/
theorem responseDependsOnRequestOnly : Obligations.ResponseDependsOnRequestOnly := by
  intro s s' hcfg hopsel hbuf harg
  have hdecode : decode s'.req = decode s.req := by
    rw [← decodeIgnoresUnusedBits s.req s'.req.bufIn s'.req.arg (fun h => (hbuf h).symm) harg.symm, hopsel]
  obtain ⟨r, hstep, -⟩ := step_answers s
  exact ⟨responseOf_congr hcfg hdecode.symm, by rw [responseOf_of_step_eq_answer hstep, Option.isSome_some]⟩

/-! The response fields an operation produces. -/

theorem not_reserved_of_mem {o : Byte} {rows : List Byte} (ho : o ∈ rows)
    (hrows : ∀ x ∈ rows, reservedSelect x = false) : reservedSelect o = false :=
  hrows o ho

theorem exec_of_buffer_select {s : State} {i : Instr} {o : Byte} (hselect : select i = some o)
    (hbuffer : o ∈ [0x10#8, 0x11, 0x13, 0x14, 0x15, 0x16, 0x20, 0x21, 0x22, 0x23, 0x24, 0x30, 0x31, 0x32, 0x33]) :
    ∃ b, exec i s = answerBuf s b := by
  cases i with
  | bufferRffreq | bufferPaconfig | bufferTcxomode => cases hselect
  | rffreqFreq | packettypeFromBits | packettypeBits | paselBits | paselCmp | regmodeBits | ocpBits | tcxotrimBits
  | tcxotrimAsMillivolts =>
    obtain rfl := Option.some.inj hselect
    exact absurd hbuffer (by decide)
  | _ => exact ⟨_, rfl⟩

theorem exec_of_scalar_select {s : State} {i : Instr} {o : Byte} (hselect : select i = some o)
    (hscalar : o ∈ [0x12#8, 0x41, 0x42, 0x43, 0x44, 0x45, 0x46, 0x47]) :
    ∃ (n : Nat) (v : BitVec n), exec i s = answerRes s v := by
  cases i with
  | bufferRffreq | bufferPaconfig | bufferTcxomode => cases hselect
  | rffreqFreq | packettypeBits | paselBits | paselCmp | regmodeBits | ocpBits | tcxotrimBits
  | tcxotrimAsMillivolts => exact ⟨_, _, rfl⟩
  | _ =>
    obtain rfl := Option.some.inj hselect
    exact absurd hscalar (by decide)

/-- Settles O11: the buffer rows of the operation map answer a buffer alone, the scalar rows a scalar alone, and FROM_BITS
of PACKETTYPE no buffer. -/
theorem unproducedFieldsAreZero : Obligations.UnproducedFieldsAreZero := by
  refine fun s t hstep => ⟨fun hbuffer => ?buffer, fun hscalar => ?scalar, fun hopsel => ?packetType⟩
  case buffer =>
    obtain ⟨i, hselect, hexec⟩ := exec_of_step (not_reserved_of_mem hbuffer (by decide)) hstep
    obtain ⟨b, hanswer⟩ := exec_of_buffer_select (s := s) hselect hbuffer
    obtain rfl := answerBuf_next_iff.mp (hanswer.symm.trans hexec)
    exact ⟨rfl, rfl, rfl⟩
  case scalar =>
    obtain ⟨i, hselect, hexec⟩ := exec_of_step (not_reserved_of_mem hscalar (by decide)) hstep
    obtain ⟨n, v, hanswer⟩ := exec_of_scalar_select (s := s) hselect hscalar
    obtain rfl := answerRes_next_iff.mp (hanswer.symm.trans hexec)
    exact ⟨rfl, rfl, rfl⟩
  case packetType =>
    obtain ⟨i, -, hexec⟩ := exec_of_step (not_reserved_of_mem (List.mem_singleton.mpr hopsel) (by decide)) hstep
    obtain ⟨-, hill⟩ := eq_answer_of_exec hexec
    exact ⟨bufOut_of_scalar_select hstep (by simp [hopsel]), hill⟩

/-! Packed words. -/

/-- Settles O6: a packed word is a sum of its fields at their weights (`toNat_append_eq_add`, `toVec_toNat`). -/
theorem packedWordsPlaceTheirFields : Obligations.PackedWordsPlaceTheirFields := by
  refine ⟨fun r => ⟨?ill, ?err, ?bufOut, ?res⟩, fun r => ⟨?request, toVec_toNat r.bufIn⟩⟩
  case ill =>
    simp only [Response.toWord, BitVec.getLsbD_append]
    simp
  case err =>
    simp only [Response.toWord, BitVec.getLsbD_append]
    simp
  case bufOut =>
    have := r.res.isLt
    have := r.bufOut.toVec.isLt
    simp only [Response.toWord, toNat_append_eq_add]
    omega
  case res =>
    have := r.res.isLt
    simp only [Response.toWord, toNat_append_eq_add]
    omega
  case request => simp only [Request.toWord, toNat_append_eq_add]

/-! Layout rows. -/

/-- Settles O54: a decoded instruction has a select code (`select_of_decode_ok`), and an instruction with one answers
(`exec_congr_cfg`). -/
theorem bufferLayoutsAreNotOperations : Obligations.BufferLayoutsAreNotOperations := by
  refine ⟨fun _ _ _ _ _ _ _ _ _ => ⟨rfl, rfl, rfl⟩, fun q i hdecode s => ?_⟩
  have hop : (select i).isSome := by rw [select_of_decode_ok hdecode, Option.isSome_some]
  obtain ⟨r, hexec, -⟩ := exec_congr_cfg (s := s) (s' := s) rfl hop
  exact ⟨s.answer r, hexec⟩

/-! Request words and operands. -/

/-- An 80-bit table word is a packed request (R37). -/
theorem decode_of_decodeTableWord {w : Nat} {i : Instr} (h : decodeTableWord 80 w = some i) :
    decode (Request.ofWord (BitVec.ofNat 80 w)) = .ok i := by
  change (decode (Request.ofWord (BitVec.ofNat 80 w))).toOption = some i at h
  cases hdecode : decode (Request.ofWord (BitVec.ofNat 80 w)) with
  | ok j =>
    rw [hdecode] at h
    rw [Option.some.inj h]
  | error e =>
    rw [hdecode] at h
    cases h

/-- Settles O7: the presented word is the low 80 bits of `w`, the word `decodeTableWord` reads. -/
theorem stepRunsTheDecodedInstruction : Obligations.StepRunsTheDecodedInstruction := by
  have runs (s : State) (i : Instr) (hdecode : decode s.req = .ok i) : step s = exec i s := by
    rw [step_eq, transact, hdecode]
  refine ⟨runs, fun s w i hword => ⟨runs _ i ?_, rfl, rfl⟩⟩
  have hpresent : BitVec.ofNat 80 (w % 2 ^ 80) = BitVec.ofNat 80 w := by
    rw [← BitVec.toNat_inj, BitVec.toNat_ofNat, BitVec.toNat_ofNat, Nat.mod_mod]
  rw [withFetchWord_eq, State.drive_req, hpresent, decode_of_decodeTableWord hword]

/-- Settles O5: the decoder evaluated on the six words. -/
theorem sampleRequestWordsDecode : Obligations.SampleRequestWordsDecode := by
  refine ⟨?_, ?_, ?_, ?_, ?_, ?_⟩ <;> decide

theorem decode_of_opsel {q : Request} {o : Byte} {x : Except Rejection Instr} (hopsel : q.opsel = o)
    (hdecode : decode { q with opsel := o } = x) : decode q = x := by
  subst hopsel
  exact hdecode

/-- A 1-bit operand is 0 exactly when its bit of `arg` is (R39). -/
theorem extractLsb'_one_eq_zero_iff {arg : Word} {k m : Nat} (hm : arg.toNat >>> k = m) :
    arg.extractLsb' k 1 = 0 ↔ m % 2 = 0 := by
  rw [← BitVec.toNat_inj, BitVec.extractLsb'_toNat, hm]
  rfl

theorem paSel_ofIndex_bit {arg : Word} {k m : Nat} (hm : arg.toNat >>> k = m) :
    PaSel.ofIndex (arg.extractLsb' k 1) = if m % 2 = 0 then .hp else .lp := by
  simp only [PaSel.ofIndex, extractLsb'_one_eq_zero_iff hm]

theorem regMode_ofIndex_bit (arg : Word) :
    RegMode.ofIndex (arg.extractLsb' 0 1) = if arg.toNat % 2 = 0 then .rm0 else .rm1 := by
  simp only [RegMode.ofIndex, extractLsb'_one_eq_zero_iff (Nat.shiftRight_zero (n := arg.toNat))]

theorem ocp_ofIndex_bit (arg : Word) :
    Ocp.ofIndex (arg.extractLsb' 0 1) = if arg.toNat % 2 = 0 then .ocp0 else .ocp1 := by
  simp only [Ocp.ofIndex, extractLsb'_one_eq_zero_iff (Nat.shiftRight_zero (n := arg.toNat))]

/-- Settles O2: the decoder's match at each select code (`decode_of_opsel`), its 1-bit operands read by arithmetic
(`paSel_ofIndex_bit` and its like). -/
theorem operationMapSelectsEachOperation : Obligations.OperationMapSelectsEachOperation := by
  intro r
  have hbit0 : PaSel.ofIndex (r.arg.extractLsb' 0 1) = if r.arg.toNat % 2 = 0 then .hp else .lp :=
    paSel_ofIndex_bit (Nat.shiftRight_zero (n := r.arg.toNat))
  have hbit8 : PaSel.ofIndex (r.arg.extractLsb' 8 1) = if r.arg.toNat / 256 % 2 = 0 then .hp else .lp :=
    paSel_ofIndex_bit (Nat.shiftRight_eq_div_pow r.arg.toNat 8)
  have hreg := regMode_ofIndex_bit r.arg
  have hocp := ocp_ofIndex_bit r.arg
  refine ⟨?_, ?_, ?_, ?_, ?_, ?_, ?_, ?_, ?_, ?_, ?setPa, ?_, ?_, ?_, ?_, ?_, ?_, ?_, ?paselBits, ?paselCmp,
    ?regmodeBits, ?ocpBits, ?_, ?_⟩
  case setPa => exact fun h => decode_of_opsel h (by rw [← hbit0]; rfl)
  case paselBits => exact fun h => decode_of_opsel h (by rw [← hbit0]; rfl)
  case paselCmp => exact fun h => decode_of_opsel h (by rw [← hbit0, ← hbit8]; rfl)
  case regmodeBits => exact fun h => decode_of_opsel h (by rw [← hreg]; rfl)
  case ocpBits => exact fun h => decode_of_opsel h (by rw [← hocp]; rfl)
  all_goals exact fun h => decode_of_opsel h rfl

end Sys2Proof.Machine
end

section
/-! PROOFS of 30_encoding.md section 6. Scripts run line by line (R51), and a line takes the buffer of the earlier line
it names (70_reset_and_hazards.md R109). -/

namespace Sys2Proof.Machine

/-- A script reads the constants of its state only. -/
theorem runScript_congr {s s' : State} (hcfg : s.cfg = s'.cfg) (done : List Response) (xs : List Line) :
    runScript s done xs = runScript s' done xs := by
  induction xs generalizing s s' done with
  | nil => rfl
  | cons l rest ih =>
    obtain ⟨r, hstep, hstep'⟩ :=
      step_congr (s := s.drive (lineRequest done l)) (s' := s'.drive (lineRequest done l)) hcfg rfl
    simp only [runScript, hstep, hstep', answer, State.answer_rsp]
    refine ih ?_ _
    exact hcfg

/-- A line appends the block's response to its request, and the rest of the script runs after it on the same block. -/
theorem runScript_cons (s : State) (done : List Response) (l : Line) :
    ∃ r, responseOf (s.drive (lineRequest done l)) = some r ∧
      ∀ rest, runScript s done (l :: rest) = runScript s (done ++ [r]) rest := by
  obtain ⟨r, hstep, -⟩ := step_answers (s.drive (lineRequest done l))
  refine ⟨r, responseOf_of_step_eq_answer hstep, fun rest => ?_⟩
  simp only [runScript, hstep, State.answer_rsp]
  refine runScript_congr ?_ _ _
  rfl

theorem runScript_append (s : State) (done : List Response) (xs ys : List Line) :
    runScript s done (xs ++ ys) = runScript s (runScript s done xs) ys := by
  induction xs generalizing done with
  | nil => rfl
  | cons l rest ih =>
    obtain ⟨r, -, hline⟩ := runScript_cons s done l
    rw [List.cons_append, hline, hline, ih]

theorem length_runScript (s : State) (done : List Response) (xs : List Line) :
    (runScript s done xs).length = done.length + xs.length := by
  induction xs generalizing done with
  | nil => rfl
  | cons l rest ih =>
    obtain ⟨r, -, hline⟩ := runScript_cons s done l
    rw [hline, ih, List.length_append, List.length_singleton, List.length_cons]
    omega

/-- Later lines change no earlier response. -/
theorem runScript_extends (s : State) (done : List Response) (xs : List Line) : done <+: runScript s done xs := by
  induction xs generalizing done with
  | nil => exact ⟨[], List.append_nil done⟩
  | cons l rest ih =>
    obtain ⟨r, -, hline⟩ := runScript_cons s done l
    rw [hline]
    have hdone : done <+: done ++ [r] := ⟨[r], rfl⟩
    exact hdone.trans (ih _)

/-- A line that names an earlier line is driven that line's `buf_out`. -/
theorem lineRequest_bufIn_of_named {done : List Response} {l : Line} {k : Nat} {r : Response}
    (hname : l.buffer = some k) (hk : done[k]? = some r) : (lineRequest done l).bufIn = r.bufOut := by
  simp only [lineRequest, hname, hk]

/-- A line without a buffer name is driven zeros. -/
theorem lineRequest_bufIn_of_unnamed {done : List Response} {l : Line} (hname : l.buffer = none) :
    (lineRequest done l).bufIn = .zero := by
  simp only [lineRequest, hname]

theorem scriptWellFormed_append (n : Nat) (xs ys : List Line) :
    scriptWellFormed n (xs ++ ys) = (scriptWellFormed n xs && scriptWellFormed (n + xs.length) ys) := by
  induction xs generalizing n with
  | nil => rfl
  | cons l rest ih =>
    rw [List.cons_append, scriptWellFormed, scriptWellFormed, ih, Bool.and_assoc, List.length_cons, Nat.add_assoc,
      Nat.add_comm 1]

/-- In a well-formed script a line names a line before it. -/
theorem lt_of_scriptWellFormed {n k : Nat} {xs ys : List Line} {l : Line}
    (hwf : scriptWellFormed n (xs ++ l :: ys) = true) (hname : l.buffer = some k) : k < n + xs.length := by
  rw [scriptWellFormed_append, scriptWellFormed, hname, Bool.and_eq_true, Bool.and_eq_true] at hwf
  obtain ⟨-, hk, -⟩ := hwf
  exact of_decide_eq_true hk

/-- Settles O19: each clause is a law of `runScript` or of `lineRequest` above; a named line stands before the naming
one (`lt_of_scriptWellFormed`), so its response is already done and stays (`runScript_extends`). -/
theorem scriptRunsLineByLine : Obligations.ScriptRunsLineByLine := by
  refine ⟨fun s done xs ys => ⟨runScript_append s done xs ys, length_runScript s done xs, runScript_extends s done xs⟩,
    fun s done l => ?line,
    fun done l => ⟨rfl, rfl, fun _ _ => lineRequest_bufIn_of_named, lineRequest_bufIn_of_unnamed⟩,
    fun s done xs ys l k hwf hname => ?named⟩
  case line =>
    obtain ⟨r, hresponse, hline⟩ := runScript_cons s done l
    exact ⟨r, hresponse, hline []⟩
  case named =>
    have hk : k < (runScript s done xs).length := by
      rw [length_runScript]
      exact lt_of_scriptWellFormed hwf hname
    have hearlier : (runScript s done xs)[k]? = some (runScript s done xs)[k] := List.getElem?_eq_getElem hk
    refine ⟨_, ?_, lineRequest_bufIn_of_named hname hearlier⟩
    obtain ⟨later, hlater⟩ := runScript_extends s (runScript s done xs) (l :: ys)
    rw [runScript_append, ← hlater, List.getElem?_append_left hk, hearlier]

end Sys2Proof.Machine
end

section
/-! PROOFS of 41_rffreq.md sections 1 to 3. The conversions as exact floor quotients (R53, R54), FROM_FREQUENCY (R56), and
the laws of the two conversions together (R62); then the pseudo-operations of 30_encoding.md R52. -/

namespace Sys2Proof.Machine

/-! The conversions as numbers. -/

/-- 32_000_000 = 2^11 * 15_625 and 2^25 = 2^11 * 16_384 (R53, equivalent forms). -/
theorem quotient_eq (n : Nat) : n * 2 ^ 25 / 32000000 = n * 16384 / 15625 := by
  simpa only [Nat.mul_assoc, Nat.reduceMul, Nat.reducePow] using
    Nat.mul_div_mul_right (n * 16384) 15625 (show 0 < 2048 by decide)

theorem product_eq (n : Nat) : 32000000 * n / 2 ^ 25 = n * 15625 / 16384 := by
  rw [Nat.mul_comm]
  simpa only [Nat.mul_assoc, Nat.reduceMul, Nat.reducePow] using
    Nat.mul_div_mul_right (n * 15625) 16384 (show 0 < 2048 by decide)

/-- Settles O26: both 64-bit products stay below 2^57, so the quotients are those of the numbers (`rfEncode_toNat`,
`rfDecode_toNat`), and the rest is arithmetic of floors. -/
theorem conversionsAreExactFloors : Obligations.ConversionsAreExactFloors := by
  refine ⟨fun f => ?encode, fun b => ?decode⟩
  case encode =>
    have hf := f.isLt
    have hquot : (rfEncode f).toNat = f.toNat * 16384 / 15625 := (rfEncode_toNat f).trans (quotient_eq _)
    exact ⟨rfEncode_toNat f, hquot, by omega, by omega, by omega⟩
  case decode =>
    have hb := b.isLt
    exact ⟨rfDecode_toNat b, (rfDecode_toNat b).trans (product_eq _), rfDecode_toNat_le b, by omega⟩

/-! FROM_FREQUENCY. -/

theorem narrow_wrap_toNat (q : Wide) : (narrow .wrap q).toNat = q.toNat % 2 ^ 32 := BitVec.toNat_setWidth 32 q

theorem narrow_saturate_toNat (q : Wide) : (narrow .saturate q).toNat = min q.toNat (2 ^ 32 - 1) := by
  unfold narrow
  split_ifs with hq
  · rw [BitVec.toNat_setWidth]
    omega
  · rw [BitVec.toNat_allOnes]
    omega

theorem exec_rffreqFromFrequency (s : State) (f : Word) :
    exec (.rffreqFromFrequency f) s =
      answerBuf s (bigEndianBuf s.cfg.opcRffreq (narrow s.cfg.narrowMode (rfEncode f)).toNat) := by
  rw [← rfFreqBuf_eq_bigEndianBuf]
  rfl

/-- Settles O21: the register value is `rfEncode_toNat` narrowed, by either NARROW_MODE. -/
theorem fromFrequencyStoresTheFloorQuotient : Obligations.FromFrequencyStoresTheFloorQuotient := by
  refine ⟨fun s f => ?_, fun s hopsel => step_eq_exec_of_opsel hopsel rfl⟩
  rw [exec_rffreqFromFrequency]
  cases s.cfg.narrowMode with
  | wrap =>
    rw [narrow_wrap_toNat, rfEncode_toNat]
    rfl
  | saturate =>
    rw [narrow_saturate_toNat, rfEncode_toNat]
    rfl

/-- Up to 4_095_999_999 Hz the quotient is a 32-bit register value (R53). -/
theorem toNat_ofNat_quotient {f : Word} (hf : f.toNat ≤ 4095999999) :
    (BitVec.ofNat 32 (f.toNat * 2 ^ 25 / 32000000)).toNat = f.toNat * 2 ^ 25 / 32000000 := by
  rw [BitVec.toNat_ofNat, Nat.mod_eq_of_lt]
  omega

/-- Up to 4_095_999_999 Hz, FROM_FREQUENCY is FROM_BITS of the quotient (30_encoding.md R52). -/
theorem exec_rffreqFromFrequency_of_le (s : State) {f : Word} (hf : f.toNat ≤ 4095999999) :
    exec (.rffreqFromFrequency f) s = exec (.rffreqFromBits (BitVec.ofNat 32 (f.toNat * 2 ^ 25 / 32000000))) s :=
  exec_rffreqFromFrequency_eq_fromBits s (toNat_ofNat_quotient hf).symm

theorem bufferOf_rffreqFromFrequency (s : State) {f : Word} (hf : f.toNat ≤ 4095999999) :
    bufferOf s (.rffreqFromFrequency f) = some (rfFreqBuf s.cfg (BitVec.ofNat 32 (f.toNat * 2 ^ 25 / 32000000))) := by
  rw [bufferOf, exec_rffreqFromFrequency_of_le s hf]
  rfl

theorem bigEndianValue_of_bufferOf_rffreqFromFrequency {s : State} {f : Word} {b : Buf40} (hf : f.toNat ≤ 4095999999)
    (hb : bufferOf s (.rffreqFromFrequency f) = some b) : bigEndianValue b = f.toNat * 2 ^ 25 / 32000000 := by
  obtain rfl := Option.some.inj ((bufferOf_rffreqFromFrequency s hf).symm.trans hb)
  rw [bigEndianValue_rfFreqBuf, toNat_ofNat_quotient hf]

/-- FREQ answers the floor product of the register value, whatever byte 0 holds (R57). -/
theorem scalarOf_rffreqFreq (s : State) (b : Buf40) :
    scalarOf s (.rffreqFreq b) = some (BitVec.ofNat 32 (32000000 * bigEndianValue b / 2 ^ 25)) := by
  rw [scalarOf, exec_rffreqFreq]
  rfl

theorem toNat_ofNat_product (b : Buf40) :
    (BitVec.ofNat 32 (32000000 * bigEndianValue b / 2 ^ 25)).toNat = 32000000 * bigEndianValue b / 2 ^ 25 := by
  have := bigEndianValue_lt b
  rw [BitVec.toNat_ofNat, Nat.mod_eq_of_lt]
  omega

/-! The laws of the conversions (R62). -/

/-- Law (a) on numbers: `q` is the floor quotient of `n` Hz and `p` the floor product of `q`. -/
theorem eq_of_product_of_quotient {n q p : Nat} (hq : q = n * 16384 / 15625) (hp : p = q * 15625 / 16384) :
    p = if 15625 ∣ n then n else n - 1 := by
  split_ifs with hdvd
  · obtain ⟨m, rfl⟩ := hdvd
    have hexact : q = 16384 * m := by omega
    omega
  · have hquot : 15625 * q ≤ 16384 * n ∧ 16384 * n < 15625 * q + 15625 := by omega
    have hinexact : 15625 * q ≠ 16384 * n := fun h =>
      hdvd (Nat.Coprime.dvd_of_dvd_mul_left (by decide) ⟨q, h.symm⟩)
    have hprod : 16384 * p ≤ 15625 * q ∧ 15625 * q < 16384 * p + 16384 := by omega
    have hbounds : 16384 * p < 16384 * n ∧ 16384 * n < 16384 * p + 32009 := by omega
    clear hp hq hquot hinexact hprod
    omega

/-- Law (b) on numbers: `p` is the floor product of `n` units and `q` the floor quotient of `p`. -/
theorem eq_of_quotient_of_product {n p q : Nat} (hp : p = n * 15625 / 16384) (hq : q = p * 16384 / 15625) :
    q + (if n * 15625 % 16384 = 0 then 0 else if n * 15625 % 16384 ≤ 15625 then 1 else 2) = n := by
  have hrem : 16384 * p + n * 15625 % 16384 = n * 15625 := hp ▸ Nat.div_add_mod _ _
  have hlt : n * 15625 % 16384 < 16384 := Nat.mod_lt _ (by decide)
  obtain ⟨r, hr⟩ : ∃ r, r = n * 15625 % 16384 := ⟨_, rfl⟩
  rw [← hr] at hrem hlt ⊢
  have hdiff : 15625 * q + r ≤ 15625 * n ∧ 15625 * n < 15625 * q + r + 15625 := by omega
  clear hp hq hrem hr
  split_ifs <;> omega

/-- Settles O27: law (a) on numbers (`eq_of_product_of_quotient`), at a register value of 32 bits. -/
theorem decodeAfterEncodeLosesAtMostOneHz : Obligations.DecodeAfterEncodeLosesAtMostOneHz := by
  intro s f hf
  refine ⟨_, bufferOf_rffreqFromFrequency s hf, scalarOf_rffreqFreq_rfFreqBuf s ?_⟩
  rw [toNat_ofNat_quotient hf, quotient_eq, product_eq, eq_of_product_of_quotient rfl rfl]
  split_ifs with hdvd
  · rfl
  · have hpos : f ≠ 0 := by
      rintro rfl
      exact hdvd (dvd_zero _)
    bv_omega

/-- Settles O28: law (b) on numbers (`eq_of_quotient_of_product`), a decoded frequency being within the range of
FROM_FREQUENCY. -/
theorem encodeAfterDecodeLosesAtMostTwoUnits : Obligations.EncodeAfterDecodeLosesAtMostTwoUnits := by
  intro s b
  have hhz := toNat_ofNat_product b
  have hle : (BitVec.ofNat 32 (32000000 * bigEndianValue b / 2 ^ 25)).toNat ≤ 4095999999 := by
    rw [hhz, ← rfBitsOf_toNat, ← rfDecode_toNat]
    exact rfDecode_toNat_le _
  have hb' := bufferOf_rffreqFromFrequency s hle
  refine ⟨_, _, scalarOf_rffreqFreq s b, hb', rfl, ?_⟩
  rw [bigEndianValue_of_bufferOf_rffreqFromFrequency hle hb', hhz, quotient_eq, product_eq]
  exact eq_of_quotient_of_product rfl rfl

/-- Settles O29: a Hz is more than one unit of the quotient, and the floor product is monotone. -/
theorem conversionsAreMonotone : Obligations.ConversionsAreMonotone := by
  refine ⟨fun s f g b b' hlt hg hb hb' => ?increasing, fun s b b' x y hle hx hy => ?nondecreasing,
    fun s op => ⟨?units21, ?units22⟩⟩
  case increasing =>
    rw [bigEndianValue_of_bufferOf_rffreqFromFrequency (hlt.le.trans hg) hb,
      bigEndianValue_of_bufferOf_rffreqFromFrequency hg hb']
    omega
  case nondecreasing =>
    obtain rfl := Option.some.inj ((scalarOf_rffreqFreq s b).symm.trans hx)
    obtain rfl := Option.some.inj ((scalarOf_rffreqFreq s b').symm.trans hy)
    rw [toNat_ofNat_product, toNat_ofNat_product]
    exact Nat.div_le_div_right (Nat.mul_le_mul_left _ hle)
  case units21 =>
    have hvalue : bigEndianValue ⟨op, 0, 0, 0, 21⟩ = 21 := by simp [bigEndianValue]
    rw [scalarOf_rffreqFreq, hvalue]
    rfl
  case units22 =>
    have hvalue : bigEndianValue ⟨op, 0, 0, 0, 22⟩ = 22 := by simp [bigEndianValue]
    rw [scalarOf_rffreqFreq, hvalue]
    rfl

/-- Settles O30: 15_625 Hz is exactly 16_384 units, and 21 lies between the quotients of 20 and 21 Hz. -/
theorem multiplesAreFixedAndEncodeIsNotOnto : Obligations.MultiplesAreFixedAndEncodeIsNotOnto := by
  refine ⟨fun s k hk => ?multiple, fun f => ?notOnto⟩
  case multiple =>
    have hhz : (BitVec.ofNat 32 (15625 * k)).toNat = 15625 * k := by
      rw [BitVec.toNat_ofNat, Nat.mod_eq_of_lt (by omega)]
    have hbits : (BitVec.ofNat 32 (16384 * k)).toNat = 16384 * k := by
      rw [BitVec.toNat_ofNat, Nat.mod_eq_of_lt (by omega)]
    have hquot : 15625 * k * 2 ^ 25 / 32000000 = 16384 * k := by omega
    have hbuf : rfFreqBuf s.cfg (BitVec.ofNat 32 (16384 * k)) = bigEndianBuf s.cfg.opcRffreq (16384 * k) := by
      rw [rfFreqBuf_eq_bigEndianBuf, hbits]
    rw [← hbuf]
    refine ⟨?_, scalarOf_rffreqFreq_rfFreqBuf s ?_⟩
    · rw [bufferOf_rffreqFromFrequency s (hhz.trans_le hk), hhz, hquot]
    · rw [hhz, hbits]
      omega
  case notOnto =>
    rw [rfEncode_toNat]
    omega

/-! Pseudo-operations (30_encoding.md R52). -/

/-- The result of PACKETTYPE.FROM_BITS read back from its response. -/
theorem packetTypeResult_of_exec {s t : State} {raw : Byte} (hexec : exec (.packettypeFromBits raw) s = .next t) :
    packetTypeResult t.rsp =
      if raw.toNat ≤ 3 then .ok (.ofIndex (BitVec.ofNat 2 raw.toNat)) else .error raw := by
  obtain ⟨p, rfl, haccept⟩ | ⟨hraw, hreject⟩ := execPackettypeFromBits_cases raw s
  · obtain rfl := answerRes_next_iff.mp (haccept.symm.trans hexec)
    cases p <;> rfl
  · obtain rfl := answer_next_iff.mp (hreject.symm.trans hexec)
    rw [if_neg (by omega), packetTypeResult, State.answer_rsp, rejectedResponse_err, if_pos rfl, rejectedResponse_res,
      extractLsb'_zero_setWidth raw (by decide)]

/-- The ordering of two PaSel values read back from PASEL.CMP's response. -/
theorem paSelOrdering_of_exec {s t : State} {a b : PaSel} (hexec : exec (.paselCmp a b) s = .next t) :
    paSelOrdering t.rsp = some (if a = b then .eq else if a = .lp then .lt else .gt) := by
  obtain rfl := answerRes_next_iff.mp hexec
  cases a <;> cases b <;> rfl

theorem byteAt_eq_transmission_getElem? (b : Buf40) (i : Nat) : byteAt b i = (transmission b)[i]? := by
  match i with
  | 0 | 1 | 2 | 3 | 4 => rfl
  | _ + 5 => rfl

/-- Settles O31: each reading is the law of its operation above; the presets are FROM_BITS by definition. -/
theorem pseudoOperationsStandForOperations : Obligations.PseudoOperationsStandForOperations :=
  ⟨fun s _ hf => exec_rffreqFromFrequency_of_le s hf, fun _ => ⟨rfl, rfl, rfl⟩,
    fun _ _ _ hexec => packetTypeResult_of_exec hexec, fun _ _ _ _ hexec => paSelOrdering_of_exec hexec,
    byteAt_eq_transmission_getElem?⟩

end Sys2Proof.Machine
end

section
/-! PROOFS of 42_paconfig.md and 43_tcxomode.md. The setters (R66, R67, R72), what a builder chain leaves in each field,
and how many buffers it reaches (R69, R75). -/

namespace Sys2Proof.Machine

/-! Single setters. -/

/-- Settles O34: the byte written is the operand's low three bits as a number (`low3_eq_ofNat`), and the decoder takes
the operand from the low byte of `arg`. -/
theorem setHpMaxMasksToThreeBits : Obligations.SetHpMaxMasksToThreeBits := by
  refine ⟨fun s b v => ?_, fun s hopsel => step_eq_exec_of_opsel hopsel rfl⟩
  rw [← low3_eq_ofNat]
  rfl

/-- Settles O35: the code of each variant, and the operand read from bit 0 of `arg` (`paSel_ofIndex_bit`). -/
theorem setPaStoresTheSelectionCode : Obligations.SetPaStoresTheSelectionCode := by
  refine ⟨fun s b => ⟨rfl, rfl⟩, fun s hopsel => ?_⟩
  rw [← paSel_ofIndex_bit (Nat.shiftRight_zero (n := s.req.arg.toNat))]
  exact step_eq_exec_of_opsel hopsel rfl

theorem tcxoTrimCode_ofIndex (i : BitVec 3) : tcxoTrimCode (.ofIndex i) = i := by
  have hcode (t : TcxoTrim) : tcxoTrimCode t = t.toIndex := by cases t <;> rfl
  rw [hcode, TcxoTrim.toIndex_ofIndex]

theorem paSelCode_ofIndex (i : BitVec 1) : paSelCode (.ofIndex i) = i := by
  have hcode (p : PaSel) : paSelCode p = p.toIndex := by cases p <;> rfl
  rw [hcode, PaSel.toIndex_ofIndex]

/-- Settles O40: the code of a variant is its index (`tcxoTrimCode_ofIndex`), which the decoder takes from `arg[2:0]`. -/
theorem setTcxoTrimStoresTheCode : Obligations.SetTcxoTrimStoresTheCode := by
  refine ⟨fun s b i => ?_, fun s hopsel => step_eq_exec_of_opsel hopsel rfl⟩
  rw [BitVec.ofNat_toNat, exec, execTcxomodeSetTcxoTrim, tcxoTrimCode_ofIndex]
  rfl

/-! What a chain of setters leaves in a field. -/

/-- A field that each call either writes from its operand or keeps holds the last operand written. -/
theorem field_foldl_eq {σ ι α β : Type} {set : σ → ι → σ} {field : σ → β} {operand : ι → Option α} {write : α → β}
    (hset : ∀ b x, field (set b x) = (operand x).elim (field b) write) (b : σ) (xs : List ι) :
    field (xs.foldl set b) = (xs.filterMap operand).getLast?.elim (field b) write := by
  induction xs using List.reverseRecOn with
  | nil => rfl
  | append_singleton xs x ih =>
    rw [List.foldl_concat, hset, ih, List.filterMap_append]
    cases h : operand x with
    | none => simp [h]
    | some v => simp [h]

/-! PaConfig chains. -/

theorem foldl_paSet_b0 (b : Buf40) (xs : List PaSetter) : (xs.foldl paSet b).b0 = b.b0 :=
  List.foldlRecOn xs paSet (motive := fun b' => b'.b0 = b.b0) rfl fun _ h x _ => by cases x <;> exact h

theorem foldl_paSet_b4 (b : Buf40) (xs : List PaSetter) : (xs.foldl paSet b).b4 = b.b4 :=
  List.foldlRecOn xs paSet (motive := fun b' => b'.b4 = b.b4) rfl fun _ h x _ => by cases x <;> exact h

/-- The buffer after a chain of PaConfig setters, field by field (42_paconfig.md R69 (a)). -/
theorem foldl_paSet_eq (b : Buf40) (xs : List PaSetter) :
    xs.foldl paSet b =
      ⟨b.b0, (xs.filterMap PaSetter.asDutyCycle).getLast?.elim b.b1 low3,
        (xs.filterMap PaSetter.asHpMax).getLast?.elim b.b2 low3,
        (xs.filterMap PaSetter.asPa).getLast?.elim b.b3 (fun p => (paSelCode p).setWidth 8), b.b4⟩ := by
  have hDutyCycle := field_foldl_eq (set := paSet) (field := Buf40.b1) (operand := PaSetter.asDutyCycle) (write := low3)
    (fun _ x => by cases x <;> rfl) b xs
  have hHpMax := field_foldl_eq (set := paSet) (field := Buf40.b2) (operand := PaSetter.asHpMax) (write := low3)
    (fun _ x => by cases x <;> rfl) b xs
  have hPa := field_foldl_eq (set := paSet) (field := Buf40.b3) (operand := PaSetter.asPa)
    (write := fun p => (paSelCode p).setWidth 8) (fun _ x => by cases x <;> rfl) b xs
  rw [← foldl_paSet_b0 b xs, ← foldl_paSet_b4 b xs, ← hDutyCycle, ← hHpMax, ← hPa]

/-- Settles O36: a chain leaves each field at its last operand (`foldl_paSet_eq`), and a permutation of one call per field
has the same last operands. -/
theorem paSetterChainKeepsTheLastOfEachField : Obligations.PaSetterChainKeepsTheLastOfEachField := by
  refine ⟨fun s b xs => ?chain, fun s b v w p ys hperm => ?commute⟩
  case chain =>
    rw [paChain_eq_foldl, foldl_paSet_eq]
    simp only [Option.some.injEq, Buf40.mk.injEq, true_and, and_true]
    refine ⟨?dutyCycle, ?hpMax, ?pa⟩
    case dutyCycle =>
      cases (xs.filterMap PaSetter.asDutyCycle).getLast? with
      | none => rfl
      | some v => exact low3_eq_ofNat v
    case hpMax =>
      cases (xs.filterMap PaSetter.asHpMax).getLast? with
      | none => rfl
      | some v => exact low3_eq_ofNat v
    case pa =>
      cases (xs.filterMap PaSetter.asPa).getLast? with
      | none => rfl
      | some p => cases p <;> rfl
  case commute =>
    have hDutyCycle : ys.filterMap PaSetter.asDutyCycle = [v] := List.perm_singleton.mp (hperm.filterMap _)
    have hHpMax : ys.filterMap PaSetter.asHpMax = [w] := List.perm_singleton.mp (hperm.filterMap _)
    have hPa : ys.filterMap PaSetter.asPa = [p] := List.perm_singleton.mp (hperm.filterMap _)
    rw [paChain_eq_foldl, paChain_eq_foldl, foldl_paSet_eq, hDutyCycle, hHpMax, hPa]
    rfl

/-! TcxoMode chains. -/

theorem foldl_tcxoSet_b0 (b : Buf40) (xs : List TcxoSetter) : (xs.foldl tcxoSet b).b0 = b.b0 :=
  List.foldlRecOn xs tcxoSet (motive := fun b' => b'.b0 = b.b0) rfl fun _ h x _ => by cases x <;> exact h

theorem foldl_tcxoSet_b1 (b : Buf40) (xs : List TcxoSetter) :
    (xs.foldl tcxoSet b).b1 =
      (xs.filterMap TcxoSetter.asTrim).getLast?.elim b.b1 (fun t => (tcxoTrimCode t).setWidth 8) :=
  field_foldl_eq (field := Buf40.b1) (fun _ x => by cases x <;> rfl) b xs

/-- The tick bytes of a buffer, most significant first (30_encoding.md R45). -/
def tickBytes (b : Buf40) : Byte × Byte × Byte := (b.b2, b.b3, b.b4)

theorem foldl_tcxoSet_tickBytes (b : Buf40) (xs : List TcxoSetter) :
    tickBytes (xs.foldl tcxoSet b) =
      (xs.filterMap TcxoSetter.asTimeout).getLast?.elim (tickBytes b) (fun n => tickBytes (withTicks .zero n)) :=
  field_foldl_eq (field := tickBytes) (fun _ x => by cases x <;> rfl) b xs

/-- Settles O42: a chain leaves the trim byte and the tick bytes at their last operand (`foldl_tcxoSet_b1`,
`foldl_tcxoSet_tickBytes`); the two setters write different bytes. -/
theorem tcxoSetterChainKeepsTheLastOfEachField : Obligations.TcxoSetterChainKeepsTheLastOfEachField := by
  refine ⟨fun s b xs => ⟨_, tcxoChain_eq_foldl s b xs, foldl_tcxoSet_b0 b xs, ?trim, ?timeout⟩, fun s b t n => rfl⟩
  case trim =>
    have hb1 := foldl_tcxoSet_b1 b xs
    cases h : (xs.filterMap TcxoSetter.asTrim).getLast? with
    | none => rwa [h] at hb1
    | some t =>
      rw [h] at hb1
      exact hb1 ▸ tcxoTrimCode_setWidth_toNat t
  case timeout =>
    have hticks := foldl_tcxoSet_tickBytes b xs
    cases h : (xs.filterMap TcxoSetter.asTimeout).getLast? with
    | none =>
      rw [h] at hticks
      simpa [tickBytes] using hticks
    | some n =>
      rw [h] at hticks
      obtain ⟨hb2, hb3, hb4⟩ : (xs.foldl tcxoSet b).b2 = (withTicks .zero n).b2 ∧
          (xs.foldl tcxoSet b).b3 = (withTicks .zero n).b3 ∧ (xs.foldl tcxoSet b).b4 = (withTicks .zero n).b4 := by
        simpa [tickBytes] using hticks
      obtain ⟨h2, h3, h4⟩ := withTicks_bytes_toNat .zero n
      simp only [hb2, hb3, hb4, h2, h3, h4]
      omega

/-! Counting the reachable buffers. -/

theorem natCard_bitVec (n : Nat) : Nat.card (BitVec n) = 2 ^ n := by
  rw [Nat.card_congr BitVec.equivFin.toEquiv, Nat.card_fin]

theorem append_right_injective {m n : Nat} (x : BitVec m) : Function.Injective (fun y : BitVec n => x ++ y) := by
  intro y z h
  simpa only [BitVec.extractLsb'_append_eq_right] using congrArg (BitVec.extractLsb' 0 n) h

/-- Every triple of field values is reached, by setting the three fields. -/
theorem paReachable_paLayout (s : State) (d h : BitVec 3) (p : BitVec 1) : PaReachable s (paLayout s.cfg d h p) := by
  refine paReachable_iff.mpr ⟨[.dutyCycle (d.setWidth 8), .hpMax (h.setWidth 8), .pa (.ofIndex p)], ?_⟩
  rw [paConfigDefault_eq_paLayout]
  simp only [List.foldl_cons, List.foldl_nil, paSet_paLayout, paSelCode_ofIndex,
    BitVec.setWidth_setWidth_of_le _ (show 3 ≤ 8 by decide), BitVec.setWidth_eq]

theorem paLayout_injective (c : Config) :
    Function.Injective (fun x : BitVec 3 × BitVec 3 × BitVec 1 => paLayout c x.1 x.2.1 x.2.2) := by
  rintro ⟨d, h, p⟩ ⟨d', h', p'⟩ heq
  obtain rfl : d = d' := append_right_injective _ (congrArg Buf40.b1 heq)
  obtain rfl : h = h' := append_right_injective _ (congrArg Buf40.b2 heq)
  obtain rfl : p = p' := append_right_injective _ (congrArg Buf40.b3 heq)
  rfl

/-- The reachable buffers are those of the layout (30_encoding.md R44). -/
theorem setOf_paReachable_eq_range (s : State) :
    {b : Buf40 | PaReachable s b} =
      Set.range (fun x : BitVec 3 × BitVec 3 × BitVec 1 => paLayout s.cfg x.1 x.2.1 x.2.2) := by
  ext b
  constructor
  · intro hb
    obtain ⟨d, h, p, rfl⟩ := eq_paLayout_of_paReachable hb
    exact ⟨(d, h, p), rfl⟩
  · rintro ⟨⟨d, h, p⟩, rfl⟩
    exact paReachable_paLayout s d h p

/-- Settles O38: one reachable buffer for each triple of field values (`setOf_paReachable_eq_range`,
`paLayout_injective`). -/
theorem paReachableBuffersAre128 : Obligations.PaReachableBuffersAre128 := by
  intro s
  rw [setOf_paReachable_eq_range, Set.ncard_range_of_injective (paLayout_injective s.cfg), Nat.card_prod,
    Nat.card_prod, natCard_bitVec, natCard_bitVec]
  norm_num

/-- Every pair of field values is reached, by setting the two fields. -/
theorem tcxoReachable_tcxoLayout (s : State) (r : BitVec 3) (t : BitVec 24) :
    TcxoReachable s (tcxoLayout s.cfg r t) := by
  refine tcxoReachable_iff.mpr ⟨[.trim (.ofIndex r), .timeout (t.setWidth 32)], ?_⟩
  rw [tcxoModeDefault_eq_tcxoLayout]
  simp only [List.foldl_cons, List.foldl_nil, tcxoSet_tcxoLayout, tcxoTrimCode_ofIndex,
    BitVec.setWidth_setWidth_of_le _ (show 24 ≤ 32 by decide), BitVec.setWidth_eq]

theorem tcxoLayout_injective (c : Config) :
    Function.Injective (fun x : BitVec 3 × BitVec 24 => tcxoLayout c x.1 x.2) := by
  rintro ⟨r, t⟩ ⟨r', t'⟩ heq
  obtain rfl : r = r' := append_right_injective _ (congrArg Buf40.b1 heq)
  have hvec := congrArg Buf40.toVec heq
  rw [tcxoLayout_toVec, tcxoLayout_toVec] at hvec
  obtain rfl : t = t' := append_right_injective _ hvec
  rfl

/-- The reachable buffers are those of the layout (30_encoding.md R45). -/
theorem setOf_tcxoReachable_eq_range (s : State) :
    {b : Buf40 | TcxoReachable s b} = Set.range (fun x : BitVec 3 × BitVec 24 => tcxoLayout s.cfg x.1 x.2) := by
  ext b
  constructor
  · intro hb
    obtain ⟨r, t, rfl⟩ := eq_tcxoLayout_of_tcxoReachable hb
    exact ⟨(r, t), rfl⟩
  · rintro ⟨⟨r, t⟩, rfl⟩
    exact tcxoReachable_tcxoLayout s r t

/-- Settles O44: one reachable buffer for each pair of field values (`setOf_tcxoReachable_eq_range`,
`tcxoLayout_injective`). -/
theorem tcxoReachableBuffersAre8Times2Pow24 : Obligations.TcxoReachableBuffersAre8Times2Pow24 := by
  intro s
  rw [setOf_tcxoReachable_eq_range, Set.ncard_range_of_injective (tcxoLayout_injective s.cfg), Nat.card_prod,
    natCard_bitVec, natCard_bitVec]
  norm_num

end Sys2Proof.Machine
end

section
/-! PROOFS of 44_enumerations.md. FROM_BITS of PACKETTYPE (R77), the PaSel order (R80), the parameter codes (R81, R82) and
the millivolt table (R84); round trip and injectivity of the code mappings (R85, R86). -/

namespace Sys2Proof.Machine

/-! FROM_BITS and its round trip. -/

/-- Settles O46: an accepted byte is a code, its index the same number; a rejected one is 4 or more and comes back
(`execPackettypeFromBits_cases`). -/
theorem packetTypeFromBitsAcceptsOrReturnsTheByte : Obligations.PacketTypeFromBitsAcceptsOrReturnsTheByte := by
  refine ⟨fun s raw => ?_, fun s hopsel => step_eq_exec_of_opsel hopsel rfl⟩
  obtain ⟨p, rfl, haccept⟩ | ⟨hraw, hreject⟩ := execPackettypeFromBits_cases raw s
  · cases p <;> exact haccept
  · rw [BitVec.ofNat_toNat, decide_eq_true hraw]
    exact hreject

/-- Settles O52: FROM_BITS takes a code back to its index (`exec_packettypeFromBits_packetTypeCode`), and an accepted byte
is the code of the variant answered. -/
theorem packetTypeRoundTrip : Obligations.PacketTypeRoundTrip := by
  refine ⟨fun s p => ?fromCode, fun s t raw hexec herr => ?toCode⟩
  case fromCode =>
    refine ⟨_, scalarOf_of_exec_eq_answerRes (exec_packettypeBits s p), s.answer (resResponse p.toIndex), ?_, rfl,
      BitVec.toNat_setWidth_of_le (by decide)⟩
    rw [ofNat_toIndex_setWidth, exec_packettypeFromBits_packetTypeCode]
    rfl
  case toCode =>
    obtain ⟨p, rfl, haccept⟩ | ⟨_, hreject⟩ := execPackettypeFromBits_cases raw s
    · obtain rfl := answerRes_next_iff.mp (haccept.symm.trans hexec)
      cases p <;> rfl
    · obtain rfl := answer_next_iff.mp (hreject.symm.trans hexec)
      cases herr

/-! PASEL.CMP. -/

/-- Settles O48: the table of the order, and the operands read from `arg[0]` and `arg[8]`. -/
theorem paSelCmpOrdersLpBelowHp : Obligations.PaSelCmpOrdersLpBelowHp := by
  refine ⟨fun s a b => ?table, fun s hopsel => ?operands⟩
  case table => cases a <;> cases b <;> rfl
  case operands =>
    have hbit8 : BitVec.ofNat 1 (s.req.arg.toNat / 256) = s.req.arg.extractLsb' 8 1 := by
      rw [BitVec.extractLsb', Nat.shiftRight_eq_div_pow]
    rw [hbit8]
    exact step_eq_exec_of_opsel hopsel rfl

theorem scalarOf_paselCmp (s : State) (a b : PaSel) :
    scalarOf s (.paselCmp a b) = some ((orderingCode (paSelCompare a b)).setWidth 32) := rfl

/-- The reported code says how the ranks compare: 3 below, 0 equal, 1 above (R80). -/
theorem orderingCode_paSelCompare_iff (a b : PaSel) :
    ((orderingCode (paSelCompare a b)).setWidth 32 = 3#32 ↔ paSelRank a < paSelRank b) ∧
    ((orderingCode (paSelCompare a b)).setWidth 32 = 0#32 ↔ paSelRank a = paSelRank b) ∧
    ((orderingCode (paSelCompare a b)).setWidth 32 = 1#32 ↔ paSelRank b < paSelRank a) := by
  obtain h | h | h := lt_trichotomy (paSelRank a) (paSelRank b)
  · have hcmp : paSelCompare a b = .lt := compare_lt_iff_lt.mpr h
    simp [hcmp, orderingCode, h, h.ne, h.le]
  · have hcmp : paSelCompare a b = .eq := compare_eq_iff_eq.mpr h
    simp [hcmp, orderingCode, h]
  · have hcmp : paSelCompare a b = .gt := compare_gt_iff_gt.mpr h
    simp [hcmp, orderingCode, h, h.ne', h.le]

theorem paSelRank_eq_iff (a b : PaSel) : paSelRank a = paSelRank b ↔ a = b := by
  cases a <;> cases b <;> decide

/-- The order of the ranks runs against that of the codes (70_reset_and_hazards.md R114). -/
theorem paSelRank_lt_iff (a b : PaSel) :
    paSelRank b < paSelRank a ↔ (a.toIndex.setWidth 32).toNat < (b.toIndex.setWidth 32).toNat := by
  cases a <;> cases b <;> decide

/-- Settles O49: the answers are those of the order of the ranks (`orderingCode_paSelCompare_iff`), a total order of
numbers that tells the variants apart and runs against the codes. -/
theorem paSelOrderIsTheReverseOfTheCodes : Obligations.PaSelOrderIsTheReverseOfTheCodes := by
  intro s a b d
  refine ⟨_, _, _, _, _, _, scalarOf_paselCmp s a b, scalarOf_paselCmp s b a, scalarOf_paselCmp s b d,
    scalarOf_paselCmp s a d, scalarOf_of_exec_eq_answerRes (exec_paselBits s a),
    scalarOf_of_exec_eq_answerRes (exec_paselBits s b), ?_⟩
  obtain ⟨habLess, habEqual, habGreater⟩ := orderingCode_paSelCompare_iff a b
  obtain ⟨-, -, hbaGreater⟩ := orderingCode_paSelCompare_iff b a
  obtain ⟨-, -, hbdGreater⟩ := orderingCode_paSelCompare_iff b d
  obtain ⟨-, -, hadGreater⟩ := orderingCode_paSelCompare_iff a d
  refine ⟨?total, habLess.trans hbaGreater.symm, habEqual.trans (paSelRank_eq_iff a b), ?transitive,
    habGreater.trans (paSelRank_lt_iff a b)⟩
  case total =>
    obtain h | h | h := lt_trichotomy (paSelRank a) (paSelRank b)
    · exact .inl (habLess.mpr h)
    · exact .inr (.inl (habEqual.mpr h))
    · exact .inr (.inr (habGreater.mpr h))
  case transitive =>
    intro hab hbd had
    have := mt habGreater.mpr hab
    have := mt hbdGreater.mpr hbd
    have := hadGreater.mp had
    omega

/-! Codes and millivolts that are parameters. -/

/-- Settles O50: each answer is the parameter as a scalar (`answerRes_eq`). -/
theorem regModeAndOcpCodesAreTheParameters : Obligations.RegModeAndOcpCodesAreTheParameters :=
  ⟨fun s => ⟨answerRes_eq s s.cfg.regmodeCode0, answerRes_eq s s.cfg.regmodeCode1, answerRes_eq s s.cfg.ocpCode0,
      answerRes_eq s s.cfg.ocpCode1⟩,
    fun _ => ⟨fun hreg => step_eq_exec_of_opsel hreg rfl, fun hocp => step_eq_exec_of_opsel hocp rfl⟩⟩

/-- Under the premises on the parameters the ends of the millivolt range belong to the first and the last variant alone
(00_scope.md R6, U12). -/
theorem tcxoMillivolts_range {c : Config} (hrange : c.MillivoltsInRange) (t : TcxoTrim) :
    1600 ≤ (tcxoMillivolts c t).toNat ∧ (tcxoMillivolts c t).toNat ≤ 3300 ∧
    ((tcxoMillivolts c t).toNat = 1600 ↔ t = .volts1pt6) ∧ ((tcxoMillivolts c t).toNat = 3300 ↔ t = .volts3pt3) := by
  obtain ⟨h2, h3, h4, h5, h6⟩ := hrange
  cases t with
  | volts1pt6 | volts1pt7 | volts3pt3 => simp [tcxoMillivolts]
  | _ =>
    simp only [tcxoMillivolts, reduceCtorEq, iff_false]
    omega

/-- Settles O51: the table read variant by variant, its range (`tcxoMillivolts_range`), and the operand in `arg[2:0]`. -/
theorem millivoltTableIsAnswered : Obligations.MillivoltTableIsAnswered := by
  refine ⟨fun s i => ?table, fun s t hrange => ?range, fun s hopsel => step_eq_exec_of_opsel hopsel rfl⟩
  case table =>
    obtain ⟨t, rfl⟩ : ∃ t : TcxoTrim, t.toIndex = i := ⟨.ofIndex i, TcxoTrim.toIndex_ofIndex i⟩
    rw [TcxoTrim.ofIndex_toIndex]
    cases t <;> exact answerRes_eq s _
  case range =>
    have hmv : ((tcxoMillivolts s.cfg t).setWidth 32).toNat = (tcxoMillivolts s.cfg t).toNat :=
      BitVec.toNat_setWidth_of_le (by decide)
    exact ⟨_, rfl, hmv ▸ tcxoMillivolts_range hrange t⟩

/-! Injectivity. -/

/-- A scalar answer tells its values apart. -/
theorem eq_of_scalarOf_eq {n : Nat} {s : State} {i j : Instr} {v w : BitVec n} (hn : n ≤ 32)
    (hi : exec i s = answerRes s v) (hj : exec j s = answerRes s w) (heq : scalarOf s i = scalarOf s j) : v = w := by
  rw [scalarOf_of_exec_eq_answerRes hi, scalarOf_of_exec_eq_answerRes hj] at heq
  rw [← extractLsb'_zero_setWidth v hn, Option.some.inj heq, extractLsb'_zero_setWidth w hn]

theorem regModeCode_injective {c : Config} (hcodes : c.CodesDistinct) : Function.Injective (regModeCode c) := by
  obtain ⟨hreg, -⟩ := hcodes
  rintro ⟨⟩ ⟨⟩ heq
  · rfl
  · exact absurd heq hreg
  · exact absurd heq.symm hreg
  · rfl

theorem ocpCode_injective {c : Config} (hcodes : c.CodesDistinct) : Function.Injective (ocpCode c) := by
  obtain ⟨-, hocp⟩ := hcodes
  rintro ⟨⟩ ⟨⟩ heq
  · rfl
  · exact absurd heq hocp
  · exact absurd heq.symm hocp
  · rfl

/-- Settles O53: an index has one variant (`ofIndex_toIndex`), distinct parameters give distinct codes, and a chain of
setters keeps byte 0 (`foldl_paSet_b0`, `foldl_tcxoSet_b0`). -/
theorem codeMappingsAreInjective : Obligations.CodeMappingsAreInjective := by
  refine ⟨fun s p q heq => ?packetType, fun s p q heq => ?paSel, fun s p q heq => ?tcxoTrim,
    fun s p q hcodes heq => ?regMode, fun s p q hcodes heq => ?ocp,
    fun s b pa tc bits xs ys ⟨hRfPa, hRfTcxo, hPaTcxo⟩ hb hpa htc => ?opcodes⟩
  case packetType =>
    exact Function.LeftInverse.injective PacketType.ofIndex_toIndex
      (eq_of_scalarOf_eq (by decide) (exec_packettypeBits s p) (exec_packettypeBits s q) heq)
  case paSel =>
    exact Function.LeftInverse.injective PaSel.ofIndex_toIndex
      (eq_of_scalarOf_eq (by decide) (exec_paselBits s p) (exec_paselBits s q) heq)
  case tcxoTrim =>
    exact Function.LeftInverse.injective TcxoTrim.ofIndex_toIndex
      (eq_of_scalarOf_eq (by decide) (exec_tcxotrimBits s p) (exec_tcxotrimBits s q) heq)
  case regMode => exact regModeCode_injective hcodes (eq_of_scalarOf_eq (by decide) rfl rfl heq)
  case ocp => exact ocpCode_injective hcodes (eq_of_scalarOf_eq (by decide) rfl rfl heq)
  case opcodes =>
    have hb0 : b.b0 = s.cfg.opcRffreq := by
      obtain rfl : rfFreqBuf s.cfg bits = b := Option.some.inj hb
      rfl
    have hpa0 : pa.b0 = s.cfg.opcPaconfig := by
      obtain rfl := Option.some.inj ((paChain_eq_foldl s (paConfigDefault s.cfg) xs).symm.trans hpa)
      exact foldl_paSet_b0 _ xs
    have htc0 : tc.b0 = s.cfg.opcTcxomode := by
      obtain rfl := Option.some.inj ((tcxoChain_eq_foldl s (tcxoModeDefault s.cfg) ys).symm.trans htc)
      exact foldl_tcxoSet_b0 _ ys
    rw [hb0, hpa0, htc0]
    exact ⟨hRfPa, hRfTcxo, hPaTcxo⟩

end Sys2Proof.Machine
end
